-- ==== Sys2Proof/Word.lean ====
section
/-! DEFINITION. Word.lean: the words of beat-box CORE: 64-bit operation words (R100), bytes, and the two float
formats as structures over their bit patterns (R12), so that integer arithmetic on a float does not type-check. -/

namespace Sys2Proof

/-- A byte of a host's image of a word (R76). -/
abbrev Byte := BitVec 8

/-- One operation word or one queued command word (R100). -/
abbrev W64 := BitVec 64

/-- An IEEE 754 binary32 value (R12): `x.bits` is `bitsf(x)`, `⟨w⟩` is `fbits(w)`. -/
structure F32 where
  bits : BitVec 32
deriving DecidableEq, Repr, Inhabited

/-- An IEEE 754 binary64 value (R12). -/
structure F64 where
  bits : BitVec 64
deriving DecidableEq, Repr, Inhabited

/-- A stereo pair of like things, left first (R386). -/
structure LR (α : Type) where
  l : α
  r : α
deriving DecidableEq, Repr, Inhabited

/-- Four like things, `j = 0, 1, 2, 3`. -/
structure Four (α : Type) where
  j0 : α
  j1 : α
  j2 : α
  j3 : α
deriving DecidableEq, Repr, Inhabited

/-- Two like things, `j = 0, 1`. -/
structure Two (α : Type) where
  j0 : α
  j1 : α
deriving DecidableEq, Repr, Inhabited

/-- Three bands (R53, R259). -/
structure Bands (α : Type) where
  lo : α
  mid : α
  hi : α
deriving DecidableEq, Repr, Inhabited

end Sys2Proof
end

