-- ==== Sys2Proof/Syntax.lean ====
section
/-! DEFINITION. Syntax.lean: the fourteen operations, one constructor for each row of spec/opcode_table.json, with
their operands as R103 types them, and the three ports (R101). -/

namespace Sys2Proof

/-- The block's ports (R101). -/
inductive Port where
  | ctrl
  | cmd
  | render
deriving DecidableEq, Repr

/-- An operation with its operands (R103 to R117). Every value an operand field can hold is kept: out-of-range lanes,
steps and indices are operations too, which are ignored (R71, R371). -/
inductive Instr where
  /-- `PREPARE sampleRate, maxBlockSize` (R104). -/
  | prepare (sampleRate : F32) (maxBlockSize : BitVec 24)
  /-- `RESET` (R105). -/
  | reset
  /-- `SETBPM bpm` (R106). -/
  | setBpm (bpm : F32)
  /-- `SETPLAYING on` (R107). -/
  | setPlaying (on : Bool)
  /-- `SETSTEP lane, step, on, velocity` (R108). -/
  | setStep (lane step : BitVec 8) (on : Bool) (velocity : F32)
  /-- `CLEARPATTERN` (R109). -/
  | clearPattern
  /-- `SETPARAM index, value` (R110). -/
  | setParam (index : BitVec 8) (value : F32)
  /-- `GETSTEPINDEX` (R111). -/
  | getStepIndex
  /-- `GETBPM` (R112). -/
  | getBpm
  /-- `ISPLAYING` (R113). -/
  | isPlaying
  /-- `CMD_TOGGLESTEP lane, step, on` (R114). -/
  | cmdToggleStep (lane step : BitVec 8) (on : Bool)
  /-- `CMD_SETBPM bpm` (R115). -/
  | cmdSetBpm (bpm : F32)
  /-- `CMD_SETPLAYING on` (R116). -/
  | cmdSetPlaying (on : Bool)
  /-- `PROCESS numFrames, numChannels` (R117); `numFrames` is read as two's complement (R103). -/
  | process (numFrames : BitVec 32) (numChannels : BitVec 8)
deriving DecidableEq, Repr

/-- The port an operation belongs to (R101, R104 to R117). -/
def Instr.port : Instr → Port
  | .prepare _ _ | .reset | .setBpm _ | .setPlaying _ | .setStep _ _ _ _ | .clearPattern | .setParam _ _
  | .getStepIndex | .getBpm | .isPlaying => .ctrl
  | .cmdToggleStep _ _ _ | .cmdSetBpm _ | .cmdSetPlaying _ => .cmd
  | .process _ _ => .render

end Sys2Proof
end

