-- ==== Sys2Proof/Decode.lean ====
section
/-! DEFINITION. Decode.lean: operation words to operations (R100, R103, R118, R119), total, rejecting a reserved
opcode by name; the byte image of a word (R76); and the encoder (canonical words, R102). -/

namespace Sys2Proof

/-- Why a word or a byte sequence is no operation. -/
inductive DecodeError where
  /-- The opcode is not in the map of R118 (R119). -/
  | reservedOpcode (opc : BitVec 8)
  /-- Not eight bytes: no port moves less or more than one whole word (R76, R100). -/
  | notOneWord (bytes : Nat)
deriving DecidableEq, Repr

/-! ## The fields of a word (R100) -/

/-- `opc`, bits 63:56. -/
def Word.opc (w : W64) : BitVec 8 := w.extractLsb' 56 8
/-- `a`, bits 55:48. -/
def Word.a (w : W64) : BitVec 8 := w.extractLsb' 48 8
/-- `b`, bits 47:40. -/
def Word.b (w : W64) : BitVec 8 := w.extractLsb' 40 8
/-- `c`, bits 39:32. -/
def Word.c (w : W64) : BitVec 8 := w.extractLsb' 32 8
/-- `imm`, bits 31:0. -/
def Word.imm (w : W64) : BitVec 32 := w.extractLsb' 0 32
/-- `on`, bit 32 (`c[0]`; `c[7:1]` is unused, R102). -/
def Word.on (w : W64) : Bool := w.getLsbD 32
/-- `maxBlockSize`, bits 55:32: `a ++ b ++ c` (R103). -/
def Word.abc (w : W64) : BitVec 24 := w.extractLsb' 32 24

/-- A word from its fields (R100). -/
def Word.make (opc a b c : BitVec 8) (imm : BitVec 32) : W64 := opc ++ a ++ b ++ c ++ imm

/-! ## Decoding (R103, R118) -/

/-- The operation a word stands for; the opcode byte alone selects it (R118). -/
def decode (w : W64) : Except DecodeError Instr :=
  match (Word.opc w).toNat with
  | 0x01 => .ok (.prepare ⟨Word.imm w⟩ (Word.abc w))
  | 0x02 => .ok .reset
  | 0x03 => .ok (.setBpm ⟨Word.imm w⟩)
  | 0x04 => .ok (.setPlaying (Word.on w))
  | 0x05 => .ok (.setStep (Word.a w) (Word.b w) (Word.on w) ⟨Word.imm w⟩)
  | 0x06 => .ok .clearPattern
  | 0x07 => .ok (.setParam (Word.a w) ⟨Word.imm w⟩)
  | 0x08 => .ok .getStepIndex
  | 0x09 => .ok .getBpm
  | 0x0A => .ok .isPlaying
  | 0x10 => .ok (.cmdToggleStep (Word.a w) (Word.b w) (Word.on w))
  | 0x11 => .ok (.cmdSetBpm ⟨Word.imm w⟩)
  | 0x12 => .ok (.cmdSetPlaying (Word.on w))
  | 0x20 => .ok (.process (Word.imm w) (Word.a w))
  | _ => .error (.reservedOpcode (Word.opc w))

/-- The word whose little-endian byte image is `bs` (R76): byte 0 holds bits 7:0. -/
def wordOfBytes : List Byte → Nat
  | [] => 0
  | b :: bs => b.toNat + 256 * wordOfBytes bs

/-- The little-endian byte image of `n` in `k` bytes (R76). -/
def bytesOfWord : Nat → Nat → List Byte
  | 0, _ => []
  | k + 1, n => BitVec.ofNat 8 n :: bytesOfWord k (n / 256)

/-- Decoding from the byte image a host lays a word in (R76). -/
def decodeBytes (bs : List Byte) : Except DecodeError Instr :=
  if bs.length = 8 then decode (BitVec.ofNat 64 (wordOfBytes bs)) else .error (.notOneWord bs.length)

/-- What the decoder reads from the table's word `w` of `nbits` bits, the bits above being 0. -/
def decodeTableWord (nbits w : Nat) : Option Instr :=
  match decodeBytes (bytesOfWord 8 (w % 2 ^ nbits)) with
  | .ok i => some i
  | .error _ => none

/-! ## Encoding (R104 to R117) -/

/-- The opcode of an operation (R118). -/
def Instr.opcode : Instr → BitVec 8
  | .prepare _ _ => 0x01#8
  | .reset => 0x02#8
  | .setBpm _ => 0x03#8
  | .setPlaying _ => 0x04#8
  | .setStep _ _ _ _ => 0x05#8
  | .clearPattern => 0x06#8
  | .setParam _ _ => 0x07#8
  | .getStepIndex => 0x08#8
  | .getBpm => 0x09#8
  | .isPlaying => 0x0A#8
  | .cmdToggleStep _ _ _ => 0x10#8
  | .cmdSetBpm _ => 0x11#8
  | .cmdSetPlaying _ => 0x12#8
  | .process _ _ => 0x20#8

/-- `c` with `on` in bit 0 and its unused bits zero (R102). -/
def onField (on : Bool) : BitVec 8 := if on then 1#8 else 0#8

/-- The canonical word of an operation: every unused field zero (R102). -/
def encode (i : Instr) : W64 :=
  match i with
  | .prepare sr mb => Word.make i.opcode (mb.extractLsb' 16 8) (mb.extractLsb' 8 8) (mb.extractLsb' 0 8) sr.bits
  | .reset => Word.make i.opcode 0#8 0#8 0#8 0#32
  | .setBpm bpm => Word.make i.opcode 0#8 0#8 0#8 bpm.bits
  | .setPlaying on => Word.make i.opcode 0#8 0#8 (onField on) 0#32
  | .setStep lane step on v => Word.make i.opcode lane step (onField on) v.bits
  | .clearPattern => Word.make i.opcode 0#8 0#8 0#8 0#32
  | .setParam index v => Word.make i.opcode index 0#8 0#8 v.bits
  | .getStepIndex => Word.make i.opcode 0#8 0#8 0#8 0#32
  | .getBpm => Word.make i.opcode 0#8 0#8 0#8 0#32
  | .isPlaying => Word.make i.opcode 0#8 0#8 0#8 0#32
  | .cmdToggleStep lane step on => Word.make i.opcode lane step (onField on) 0#32
  | .cmdSetBpm bpm => Word.make i.opcode 0#8 0#8 0#8 bpm.bits
  | .cmdSetPlaying on => Word.make i.opcode 0#8 0#8 (onField on) 0#32
  | .process nf nc => Word.make i.opcode nc 0#8 0#8 nf

end Sys2Proof
end

