-- ==== Sys2Proof/Machine/Float.lean ====
section
/-! DEFINITION. Machine/Float.lean: IEEE 754 binary32 and binary64 arithmetic (R13, R176): each operation computed
exactly on integers and rounded once, to nearest, ties to even; subnormals kept; no fused operation; one canonical
NaN (U12, assumption 7). A finite magnitude is an integer number of the format's smallest subnormals. -/

namespace Sys2Proof

/-- A binary interchange format: the number of fraction bits and of exponent bits. -/
structure Fmt where
  mant : Nat
  exp : Nat
deriving DecidableEq, Repr

/-- binary32. -/
def fmt32 : Fmt := ⟨23, 8⟩

/-- binary64. -/
def fmt64 : Fmt := ⟨52, 11⟩

/-- The magnitude bits of infinity: exponent field all ones, fraction 0. -/
def Fmt.infMag (f : Fmt) : Nat := (2 ^ f.exp - 1) * 2 ^ f.mant

/-- The weight of the sign bit. -/
def Fmt.signBit (f : Fmt) : Nat := 2 ^ (f.exp + f.mant)

/-- The canonical quiet NaN (U12, assumption 7). -/
def Fmt.qnan (f : Fmt) : Nat := f.infMag + 2 ^ (f.mant - 1)

/-- `2^-unit` is the smallest subnormal: 149 for binary32, 1074 for binary64. -/
def Fmt.unit (f : Fmt) : Nat := 2 ^ (f.exp - 1) - 2 + f.mant

/-- The pattern without its sign bit. -/
def Fmt.mag (f : Fmt) (x : Nat) : Nat := x % f.signBit

def Fmt.isNeg (f : Fmt) (x : Nat) : Bool := f.signBit ≤ x

def Fmt.isNaN (f : Fmt) (x : Nat) : Bool := f.infMag < f.mag x

def Fmt.isInf (f : Fmt) (x : Nat) : Bool := f.mag x = f.infMag

def Fmt.isZero (f : Fmt) (x : Nat) : Bool := f.mag x = 0

/-- The value of finite magnitude bits `m`, in units of the smallest subnormal. -/
def Fmt.scaled (f : Fmt) (m : Nat) : Nat :=
  if m / 2 ^ f.mant = 0 then m else (m % 2 ^ f.mant + 2 ^ f.mant) * 2 ^ (m / 2 ^ f.mant - 1)

/-- The signed value of a finite pattern, in units of the smallest subnormal. -/
def Fmt.toInt (f : Fmt) (x : Nat) : Int :=
  if f.isNeg x then -(f.scaled (f.mag x) : Int) else (f.scaled (f.mag x) : Int)

/-- `num / den` rounded to an integer, to nearest, ties to even. -/
def roundDiv (num den : Nat) : Nat :=
  if 2 * (num % den) > den ∨ (2 * (num % den) = den ∧ num / den % 2 = 1) then num / den + 1 else num / den

/-- The exponent step at which `num / den` (in units of the smallest subnormal) keeps `mant + 1` bits. -/
def Fmt.shift (f : Fmt) (num den : Nat) : Nat := Nat.log2 (num / den) - f.mant

/-- The magnitude bits of `num / den` units rounded to nearest even; infinity on overflow (R13). -/
def Fmt.roundMag (f : Fmt) (num den : Nat) : Nat :=
  min (f.shift num den * 2 ^ f.mant + roundDiv num (den * 2 ^ f.shift num den)) f.infMag

/-- A pattern from a sign and magnitude bits. -/
def Fmt.pack (f : Fmt) (neg : Bool) (mag : Nat) : Nat := if neg then f.signBit + mag else mag

def Fmt.neg (f : Fmt) (x : Nat) : Nat := f.pack (!f.isNeg x) (f.mag x)

def Fmt.add (f : Fmt) (a b : Nat) : Nat :=
  if f.isNaN a || f.isNaN b then f.qnan
  else if f.isInf a then (if f.isInf b && (f.isNeg a != f.isNeg b) then f.qnan else a)
  else if f.isInf b then b
  else if f.toInt a + f.toInt b = 0 then f.pack (f.isNeg a && f.isNeg b) 0
  else f.pack (decide (f.toInt a + f.toInt b < 0)) (f.roundMag (f.toInt a + f.toInt b).natAbs 1)

def Fmt.mul (f : Fmt) (a b : Nat) : Nat :=
  if f.isNaN a || f.isNaN b then f.qnan
  else if (f.isInf a && f.isZero b) || (f.isZero a && f.isInf b) then f.qnan
  else if f.isInf a || f.isInf b then f.pack (f.isNeg a != f.isNeg b) f.infMag
  else f.pack (f.isNeg a != f.isNeg b)
    (f.roundMag (f.scaled (f.mag a) * f.scaled (f.mag b)) (2 ^ f.unit))

def Fmt.div (f : Fmt) (a b : Nat) : Nat :=
  if f.isNaN a || f.isNaN b then f.qnan
  else if (f.isInf a && f.isInf b) || (f.isZero a && f.isZero b) then f.qnan
  else if f.isInf a || f.isZero b then f.pack (f.isNeg a != f.isNeg b) f.infMag
  else if f.isInf b then f.pack (f.isNeg a != f.isNeg b) 0
  else f.pack (f.isNeg a != f.isNeg b)
    (f.roundMag (f.scaled (f.mag a) * 2 ^ f.unit) (f.scaled (f.mag b)))

/-- The order key of a pattern that is not a NaN: both zeros are 0, infinities are the extremes. -/
def Fmt.key (f : Fmt) (x : Nat) : Int := if f.isNeg x then -(f.mag x : Int) else (f.mag x : Int)

/-- IEEE `<`: false with a NaN (R13). -/
def Fmt.lt (f : Fmt) (a b : Nat) : Bool := !f.isNaN a && !f.isNaN b && decide (f.key a < f.key b)

/-- IEEE `≤`: false with a NaN (R13). -/
def Fmt.le (f : Fmt) (a b : Nat) : Bool := !f.isNaN a && !f.isNaN b && decide (f.key a ≤ f.key b)

/-- IEEE `=`: false with a NaN (R13). -/
def Fmt.feq (f : Fmt) (a b : Nat) : Bool := !f.isNaN a && !f.isNaN b && decide (f.key a = f.key b)

/-- The largest integral value not above `x` (R13). -/
def Fmt.floor (f : Fmt) (x : Nat) : Nat :=
  if f.isNaN x then f.qnan
  else if f.isInf x || f.isZero x then x
  else f.pack (f.isNeg x)
    (f.roundMag (((if f.isNeg x then f.scaled (f.mag x) + (2 ^ f.unit - 1) else f.scaled (f.mag x))
      / 2 ^ f.unit) * 2 ^ f.unit) 1)

/-- The exact IEEE remainder with the sign of `a` (R13). -/
def Fmt.fmod (f : Fmt) (a b : Nat) : Nat :=
  if f.isNaN a || f.isNaN b || f.isInf a || f.isZero b then f.qnan
  else if f.isInf b then a
  else f.pack (f.isNeg a) (f.roundMag (f.scaled (f.mag a) % f.scaled (f.mag b)) 1)

/-! ## binary32 -/

/-- The pattern as a number. -/
def F32.nat (x : F32) : Nat := x.bits.toNat

/-- A float from its pattern as a number. -/
def F32.ofPattern (n : Nat) : F32 := ⟨BitVec.ofNat 32 n⟩

def F32.zero : F32 := ⟨0#32⟩

def F32.one : F32 := ⟨0x3F800000#32⟩

/-- The one NaN that arithmetic produces (U12, assumption 7). -/
def F32.nan : F32 := ⟨0x7FC00000#32⟩

def F32.isNaN (x : F32) : Bool := fmt32.isNaN x.nat
def F32.isInf (x : F32) : Bool := fmt32.isInf x.nat
def F32.isZero (x : F32) : Bool := fmt32.isZero x.nat
/-- The sign bit is set. -/
def F32.isNeg (x : F32) : Bool := fmt32.isNeg x.nat
/-- Neither a NaN nor an infinity. -/
def F32.isFinite (x : F32) : Bool := !x.isNaN && !x.isInf

def F32.neg (x : F32) : F32 := F32.ofPattern (fmt32.neg x.nat)
/-- `|x|`: the sign bit cleared (R13). -/
def F32.abs (x : F32) : F32 := F32.ofPattern (fmt32.mag x.nat)
def F32.add (a b : F32) : F32 := F32.ofPattern (fmt32.add a.nat b.nat)
/-- `a - b` is `a + (-b)`: the IEEE subtraction. -/
def F32.sub (a b : F32) : F32 := F32.ofPattern (fmt32.add a.nat (fmt32.neg b.nat))
def F32.mul (a b : F32) : F32 := F32.ofPattern (fmt32.mul a.nat b.nat)
def F32.div (a b : F32) : F32 := F32.ofPattern (fmt32.div a.nat b.nat)
/-- `FLOORf` (R13). -/
def F32.floor (x : F32) : F32 := F32.ofPattern (fmt32.floor x.nat)
/-- `FMOD` (R13). -/
def F32.fmod (a b : F32) : F32 := F32.ofPattern (fmt32.fmod a.nat b.nat)
def F32.lt (a b : F32) : Bool := fmt32.lt a.nat b.nat
def F32.le (a b : F32) : Bool := fmt32.le a.nat b.nat
def F32.gt (a b : F32) : Bool := b.lt a
def F32.ge (a b : F32) : Bool := b.le a
def F32.feq (a b : F32) : Bool := fmt32.feq a.nat b.nat
/-- IEEE `≠`: true with a NaN (R13). -/
def F32.fne (a b : F32) : Bool := !a.feq b
/-- `min(a,b)` is `a` if `a < b` else `b` (R13). -/
def F32.min (a b : F32) : F32 := if a.lt b then a else b
/-- `max(a,b)` is `a` if `a > b` else `b` (R13). -/
def F32.max (a b : F32) : F32 := if a.gt b then a else b
/-- `U2F` (R13). -/
def F32.ofNat (n : Nat) : F32 := F32.ofPattern (fmt32.roundMag (n * 2 ^ fmt32.unit) 1)
/-- The decimal literal `n · 10^-k`, rounded: `F32` of a real literal (R13). -/
def F32.dec (n : Int) (k : Nat) : F32 :=
  F32.ofPattern (fmt32.pack (decide (n < 0)) (fmt32.roundMag (n.natAbs * 2 ^ fmt32.unit) (10 ^ k)))
/-- 2. -/
def F32.two : F32 := ⟨0x40000000#32⟩
/-- 0.5. -/
def F32.half : F32 := ⟨0x3F000000#32⟩

/-! ## binary64 -/

def F64.nat (x : F64) : Nat := x.bits.toNat
def F64.ofPattern (n : Nat) : F64 := ⟨BitVec.ofNat 64 n⟩
def F64.zero : F64 := ⟨0#64⟩
def F64.isNaN (x : F64) : Bool := fmt64.isNaN x.nat
def F64.isInf (x : F64) : Bool := fmt64.isInf x.nat
def F64.isNeg (x : F64) : Bool := fmt64.isNeg x.nat
def F64.isFinite (x : F64) : Bool := !x.isNaN && !x.isInf
def F64.add (a b : F64) : F64 := F64.ofPattern (fmt64.add a.nat b.nat)
def F64.mul (a b : F64) : F64 := F64.ofPattern (fmt64.mul a.nat b.nat)
def F64.div (a b : F64) : F64 := F64.ofPattern (fmt64.div a.nat b.nat)
def F64.lt (a b : F64) : Bool := fmt64.lt a.nat b.nat
def F64.le (a b : F64) : Bool := fmt64.le a.nat b.nat
def F64.ge (a b : F64) : Bool := b.le a
def F64.feq (a b : F64) : Bool := fmt64.feq a.nat b.nat
/-- An integer rounded to binary64: exact below 2^53 (R13, U16). -/
def F64.ofNat (n : Nat) : F64 := F64.ofPattern (fmt64.roundMag (n * 2 ^ fmt64.unit) 1)
/-- `F64(x)` of an `f32`: exact (R13). -/
def F64.ofF32 (x : F32) : F64 :=
  if x.isNaN then F64.ofPattern fmt64.qnan
  else if x.isInf then F64.ofPattern (fmt64.pack x.isNeg fmt64.infMag)
  else F64.ofPattern (fmt64.pack x.isNeg
    (fmt64.roundMag (fmt32.scaled (fmt32.mag x.nat) * 2 ^ (fmt64.unit - fmt32.unit)) 1))
/-- `F32(r)` of an `f64`: rounded (R13). -/
def F64.toF32 (x : F64) : F32 :=
  if x.isNaN then F32.nan
  else if x.isInf then F32.ofPattern (fmt32.pack x.isNeg fmt32.infMag)
  else F32.ofPattern (fmt32.pack x.isNeg
    (fmt32.roundMag (fmt64.scaled (fmt64.mag x.nat)) (2 ^ (fmt64.unit - fmt32.unit))))

end Sys2Proof
end

