-- ==== Sys2Proof/Config.lean ====
section
/-! DEFINITION. Config.lean: the configuration record `CFG` (R10), its reference instance, the parameter table
(R40), the constants of R14, and the elementary functions the spec leaves open (R11) as opaque constants. -/

namespace Sys2Proof

/-! ## The configuration record -/

/-- `PT_RANGE[i]` (R10): the legal range of one parameter. -/
structure ParamRange where
  min : F32
  max : F32
deriving DecidableEq, Repr

/-- The fields of `CFG` that are data (R10). A model takes `CFG` as an argument: it stands in `State.cfg`, which no
step writes (assumption 1). -/
structure Cfg where
  /-- `CMDQ_DEPTH`, at least 1. -/
  cmdqDepth : Nat
  /-- `NPARAM`, the entries of the parameter table. -/
  nparam : Nat
  /-- `PT_RANGE[i]`, the legal ranges. An upper end above `COEF_MAX`, `ATK_COEF_MAX` or `FEEDBACK_MAX` counts as that
  bound on a decay coefficient, an attack coefficient or the feedback (R10, R40, `ptMax`). -/
  ptRanges : List ParamRange
  /-- `PT_RESET[i]`, the reset values. -/
  ptResets : List F32
  /-- `SNAP_ORDER`, a permutation of `0 .. NPARAM - 1` (R85, left open). -/
  snapOrder : List Nat
  /-- `COEF_MAX`. -/
  coefMax : F32
  /-- `ATK_COEF_MAX`. -/
  atkCoefMax : F32
  kickSeed0 : BitVec 32
  snareRng0 : BitVec 32
  hatRng0 : BitVec 32
  lcgA : BitVec 32
  lcgC : BitVec 32
  xsA : Nat
  xsB : Nat
  xsC : Nat
  revCombLen : LR (Four Nat)
  revApLen : LR (Two Nat)
  revApG : F32
  revFbBase : F32
  revFbScale : F32
  revDampScale : F32
  revInGain : F32
  difLen : LR (Four Nat)
  difG : F32
  /-- `HIL_A[b][j]`, branches `b = 0, 1`. -/
  hilA : Two (Four F32)
  ottXloHz : F32
  ottXhiHz : F32
  ottAttS : F32
  ottRelS : F32
  ottTUp : F32
  ottTDown : F32
  ottFloor : F32
  ottGmax : F32
  fxToneBypassHz : F32
deriving DecidableEq, Repr

/-! ## Constants (R14, R10) -/

/-- `TWO_PI` (R14). -/
def Config.twoPi : F32 := ⟨0x40C90FDB#32⟩
/-- `PI` (R14). -/
def Config.pi : F32 := ⟨0x40490FDB#32⟩
/-- `ENV_EPS` (R14). -/
def Config.envEps : F32 := ⟨0x38D1B717#32⟩
/-- `DB_TO_LOG2` (R14). -/
def Config.dbToLog2 : F32 := ⟨0x3E2A152D#32⟩
/-- `BPM_MIN` (R10). -/
def Config.bpmMin : F32 := F32.ofNat 40
/-- `BPM_MAX` (R10). -/
def Config.bpmMax : F32 := F32.ofNat 240
/-- `EQ_XLO_HZ` (R10). -/
def Config.eqXloHz : F32 := F32.ofNat 200
/-- `EQ_XHI_HZ` (R10). -/
def Config.eqXhiHz : F32 := F32.ofNat 3000
/-- `FEEDBACK_MAX` (R10), 0.5: the greatest feedback of every configuration. -/
def Config.feedbackMax : F32 := ⟨0x3F000000#32⟩

/-! ## The parameter table (R40) -/

/-- The kinds of R40. -/
inductive ParamKind where
  | coef | acoef | hz | ratio | gain | mix | db | turns | sel2 | sel3 | sel4 | selClip
deriving DecidableEq, Repr

/-- A decimal literal `num · 10^-scale`. -/
structure Dec where
  num : Int
  scale : Nat
deriving DecidableEq, Repr

/-- The decimal literal rounded to binary32 (R40: "Every reset value v means F32(v)"). -/
def Dec.toF32 (d : Dec) : F32 := F32.dec d.num d.scale

/-- A row of R40, with the reference values of `PT_RANGE` and `PT_RESET`. -/
structure ParamRow where
  kind : ParamKind
  min : Dec
  max : Dec
  reset : Dec
deriving DecidableEq, Repr

/-! Parameter indices by name (the `i` column of R40). -/
/-- kick amplitude envelope (R40). -/
abbrev Param.K_AMP_DECAY : Nat := 0
/-- kick pitch envelope (R40). -/
abbrev Param.K_PITCH_DECAY : Nat := 1
/-- kick drive envelope (R40). -/
abbrev Param.K_DRIVE_DECAY : Nat := 2
/-- kick tail envelope (R40). -/
abbrev Param.K_TAIL_DECAY : Nat := 3
/-- body sweep start (R40). -/
abbrev Param.K_ATTACK_FREQ : Nat := 4
/-- body sweep end (R40). -/
abbrev Param.K_BASE_FREQ : Nat := 5
/-- tail frequency = ratio × base (R40). -/
abbrev Param.K_TAIL_RATIO : Nat := 6
/-- tail level (R40). -/
abbrev Param.K_TAIL_MIX : Nat := 7
/-- drive gain depth (R40). -/
abbrev Param.K_DRIVE_AMOUNT : Nat := 8
/-- one-sample feedback (R40). -/
abbrev Param.K_FEEDBACK : Nat := 9
/-- 2× oversampling on (R40). -/
abbrev Param.K_OVERSAMPLE : Nat := 10
/-- master clip mode: 0 tanh, 1 hard, 2 foldback (R40). -/
abbrev Param.K_CLIP_MODE : Nat := 11
/-- foldback threshold (clipper and crunch) (R40). -/
abbrev Param.K_FOLD_THRESHOLD : Nat := 12
/-- pre high-pass cutoff (R40). -/
abbrev Param.K_PRE_HP_HZ : Nat := 13
/-- sub-path low-pass cutoff (R40). -/
abbrev Param.K_SUB_LP_HZ : Nat := 14
/-- sub-path scale (R40). -/
abbrev Param.K_AMP : Nat := 15
/-- final sub/dirty mix (R40). -/
abbrev Param.K_SUB_MIX : Nat := 16
/-- output gain (R40). -/
abbrev Param.K_POST_GAIN : Nat := 17
/-- tok level (R40). -/
abbrev Param.K_TOK_AMOUNT : Nat := 18
/-- tok high-pass cutoff (R40). -/
abbrev Param.K_TOK_HZ : Nat := 19
/-- crunch crossfade (R40). -/
abbrev Param.K_CRUNCH : Nat := 20
/-- post low-pass cutoff (R40). -/
abbrev Param.K_POST_LP_HZ : Nat := 21
/-- post high-pass cutoff (R40). -/
abbrev Param.K_POST_HP_HZ : Nat := 22
/-- chain A asymmetry (R40). -/
abbrev Param.KA_ASYM : Nat := 23
/-- chain A clipper: -1 global, 0 tanh, 1 hard, 2 foldback (R40). -/
abbrev Param.KA_CLIP : Nat := 24
/-- chain A low-pass cutoff (R40). -/
abbrev Param.KA_LP_HZ : Nat := 25
/-- chain A mix ratio (R40). -/
abbrev Param.KA_MIX : Nat := 26
/-- chain B asymmetry (R40). -/
abbrev Param.KB_ASYM : Nat := 27
/-- chain B clipper (R40). -/
abbrev Param.KB_CLIP : Nat := 28
/-- chain B low-pass cutoff (R40). -/
abbrev Param.KB_LP_HZ : Nat := 29
/-- chain B mix ratio (R40). -/
abbrev Param.KB_MIX : Nat := 30
/-- layer 1 waveform: 0 sine, 1 triangle, 2 square, 3 noise (R40). -/
abbrev Param.L1_WAVE : Nat := 31
/-- layer 1 attack coefficient (R40). -/
abbrev Param.L1_ATTACK : Nat := 32
/-- layer 1 decay coefficient (R40). -/
abbrev Param.L1_DECAY : Nat := 33
/-- layer 1 frequency (R40). -/
abbrev Param.L1_FREQ : Nat := 34
/-- layer 1 phase offset, in cycles (R40). -/
abbrev Param.L1_PHASE : Nat := 35
/-- layer 1 internal drive (R40). -/
abbrev Param.L1_DRIVE : Nat := 36
/-- layer 1 level (R40). -/
abbrev Param.L1_LEVEL : Nat := 37
/-- layer 2 waveform (R40). -/
abbrev Param.L2_WAVE : Nat := 38
/-- layer 2 attack coefficient (R40). -/
abbrev Param.L2_ATTACK : Nat := 39
/-- layer 2 decay coefficient (R40). -/
abbrev Param.L2_DECAY : Nat := 40
/-- layer 2 frequency (R40). -/
abbrev Param.L2_FREQ : Nat := 41
/-- layer 2 phase offset (R40). -/
abbrev Param.L2_PHASE : Nat := 42
/-- layer 2 internal drive (R40). -/
abbrev Param.L2_DRIVE : Nat := 43
/-- layer 2 level (R40). -/
abbrev Param.L2_LEVEL : Nat := 44
/-- LFO waveform: 0 sine, 1 triangle, 2 square (R40). -/
abbrev Param.LFO_WAVE : Nat := 45
/-- LFO frequency (R40). -/
abbrev Param.LFO_RATE_HZ : Nat := 46
/-- square duty (R40). -/
abbrev Param.LFO_DUTY : Nat := 47
/-- LFO target: 0 pitch, 1 drive, 2 cutoff, 3 phase (R40). -/
abbrev Param.LFO_TARGET : Nat := 48
/-- LFO depth (R40). -/
abbrev Param.LFO_DEPTH : Nat := 49
/-- snare amplitude envelope (R40). -/
abbrev Param.S_AMP_DECAY : Nat := 50
/-- snare tone envelope (R40). -/
abbrev Param.S_TONE_DECAY : Nat := 51
/-- snare tone frequency (R40). -/
abbrev Param.S_TONE_FREQ : Nat := 52
/-- snare noise/tone blend (R40). -/
abbrev Param.S_NOISE_MIX : Nat := 53
/-- snare output level (R40). -/
abbrev Param.S_LEVEL : Nat := 54
/-- hat amplitude envelope (R40). -/
abbrev Param.H_DECAY : Nat := 55
/-- hat high-pass cutoff (R40). -/
abbrev Param.H_CUTOFF_HZ : Nat := 56
/-- hat output level (R40). -/
abbrev Param.H_LEVEL : Nat := 57
/-- frequency shift; neutral 0 (R40). -/
abbrev Param.FX_SHIFT_HZ : Nat := 58
/-- stereo width; neutral 1 (R40). -/
abbrev Param.FX_WIDTH : Nat := 59
/-- diffuser dry/wet; neutral 0 (R40). -/
abbrev Param.FX_DIFFUSE : Nat := 60
/-- inflator drive (R40). -/
abbrev Param.FX_INFL_DRIVE : Nat := 61
/-- inflator mix; neutral 0 (R40). -/
abbrev Param.FX_INFL_MIX : Nat := 62
/-- OTT amount; neutral 0 (R40). -/
abbrev Param.FX_OTT_AMOUNT : Nat := 63
/-- transient depth; neutral 0 (R40). -/
abbrev Param.FX_TRANS_DEPTH : Nat := 64
/-- transient attack coefficient (R40). -/
abbrev Param.FX_TRANS_ATTACK : Nat := 65
/-- transient decay coefficient (R40). -/
abbrev Param.FX_TRANS_DECAY : Nat := 66
/-- tone low-pass cutoff; neutral ≥ `CFG.FX_TONE_BYPASS_HZ` (R40). -/
abbrev Param.FX_TONE_HZ : Nat := 67
/-- clean/dirty mix; neutral 0 (R40). -/
abbrev Param.FX_MIX : Nat := 68
/-- reverb size (R40). -/
abbrev Param.REV_SIZE : Nat := 69
/-- reverb damping (R40). -/
abbrev Param.REV_DAMP : Nat := 70
/-- reverb wet level (R40). -/
abbrev Param.REV_MIX : Nat := 71
/-- master low band gain (R40). -/
abbrev Param.M_LOW_DB : Nat := 72
/-- master mid band gain (R40). -/
abbrev Param.M_MID_DB : Nat := 73
/-- master high band gain (R40). -/
abbrev Param.M_HIGH_DB : Nat := 74
/-- master gain, linear (R40). -/
abbrev Param.M_GAIN : Nat := 75
/-- master clip: 0 off, 1 soft, 2 hard (R40). -/
abbrev Param.M_CLIP_MODE : Nat := 76

/-- Rows 0 to 19 of R40. -/
def Config.tableA : List ParamRow :=
  [⟨.coef, ⟨0, 0⟩, ⟨99999, 5⟩, ⟨9995, 4⟩⟩,
   ⟨.coef, ⟨0, 0⟩, ⟨99999, 5⟩, ⟨995, 3⟩⟩,
   ⟨.coef, ⟨0, 0⟩, ⟨99999, 5⟩, ⟨99, 2⟩⟩,
   ⟨.coef, ⟨0, 0⟩, ⟨99999, 5⟩, ⟨9997, 4⟩⟩,
   ⟨.hz, ⟨1, 0⟩, ⟨20000, 0⟩, ⟨220, 0⟩⟩,
   ⟨.hz, ⟨1, 0⟩, ⟨20000, 0⟩, ⟨50, 0⟩⟩,
   ⟨.ratio, ⟨25, 2⟩, ⟨8, 0⟩, ⟨2, 0⟩⟩,
   ⟨.mix, ⟨0, 0⟩, ⟨1, 0⟩, ⟨0, 0⟩⟩,
   ⟨.gain, ⟨0, 0⟩, ⟨40, 0⟩, ⟨0, 0⟩⟩,
   ⟨.gain, ⟨0, 0⟩, ⟨5, 1⟩, ⟨0, 0⟩⟩,
   ⟨.sel2, ⟨0, 0⟩, ⟨1, 0⟩, ⟨0, 0⟩⟩,
   ⟨.sel3, ⟨0, 0⟩, ⟨2, 0⟩, ⟨0, 0⟩⟩,
   ⟨.gain, ⟨5, 2⟩, ⟨4, 0⟩, ⟨1, 0⟩⟩,
   ⟨.hz, ⟨0, 0⟩, ⟨1000, 0⟩, ⟨20, 0⟩⟩,
   ⟨.hz, ⟨20, 0⟩, ⟨1000, 0⟩, ⟨120, 0⟩⟩,
   ⟨.gain, ⟨0, 0⟩, ⟨2, 0⟩, ⟨1, 0⟩⟩,
   ⟨.mix, ⟨0, 0⟩, ⟨1, 0⟩, ⟨5, 1⟩⟩,
   ⟨.gain, ⟨0, 0⟩, ⟨4, 0⟩, ⟨1, 0⟩⟩,
   ⟨.gain, ⟨0, 0⟩, ⟨2, 0⟩, ⟨0, 0⟩⟩,
   ⟨.hz, ⟨20, 0⟩, ⟨20000, 0⟩, ⟨2000, 0⟩⟩]

/-- Rows 20 to 39 of R40. -/
def Config.tableB : List ParamRow :=
  [⟨.mix, ⟨0, 0⟩, ⟨1, 0⟩, ⟨0, 0⟩⟩,
   ⟨.hz, ⟨20, 0⟩, ⟨20000, 0⟩, ⟨20000, 0⟩⟩,
   ⟨.hz, ⟨0, 0⟩, ⟨2000, 0⟩, ⟨0, 0⟩⟩,
   ⟨.gain, ⟨-1, 0⟩, ⟨1, 0⟩, ⟨0, 0⟩⟩,
   ⟨.selClip, ⟨-1, 0⟩, ⟨2, 0⟩, ⟨-1, 0⟩⟩,
   ⟨.hz, ⟨20, 0⟩, ⟨20000, 0⟩, ⟨20000, 0⟩⟩,
   ⟨.mix, ⟨0, 0⟩, ⟨1, 0⟩, ⟨1, 0⟩⟩,
   ⟨.gain, ⟨-1, 0⟩, ⟨1, 0⟩, ⟨0, 0⟩⟩,
   ⟨.selClip, ⟨-1, 0⟩, ⟨2, 0⟩, ⟨-1, 0⟩⟩,
   ⟨.hz, ⟨20, 0⟩, ⟨20000, 0⟩, ⟨20000, 0⟩⟩,
   ⟨.mix, ⟨0, 0⟩, ⟨1, 0⟩, ⟨0, 0⟩⟩,
   ⟨.sel4, ⟨0, 0⟩, ⟨3, 0⟩, ⟨0, 0⟩⟩,
   ⟨.acoef, ⟨0, 0⟩, ⟨9995, 4⟩, ⟨0, 0⟩⟩,
   ⟨.coef, ⟨0, 0⟩, ⟨99999, 5⟩, ⟨999, 3⟩⟩,
   ⟨.hz, ⟨1, 0⟩, ⟨20000, 0⟩, ⟨100, 0⟩⟩,
   ⟨.turns, ⟨0, 0⟩, ⟨1, 0⟩, ⟨0, 0⟩⟩,
   ⟨.gain, ⟨0, 0⟩, ⟨40, 0⟩, ⟨0, 0⟩⟩,
   ⟨.mix, ⟨0, 0⟩, ⟨1, 0⟩, ⟨0, 0⟩⟩,
   ⟨.sel4, ⟨0, 0⟩, ⟨3, 0⟩, ⟨0, 0⟩⟩,
   ⟨.acoef, ⟨0, 0⟩, ⟨9995, 4⟩, ⟨0, 0⟩⟩]

/-- Rows 40 to 59 of R40. -/
def Config.tableC : List ParamRow :=
  [⟨.coef, ⟨0, 0⟩, ⟨99999, 5⟩, ⟨999, 3⟩⟩,
   ⟨.hz, ⟨1, 0⟩, ⟨20000, 0⟩, ⟨150, 0⟩⟩,
   ⟨.turns, ⟨0, 0⟩, ⟨1, 0⟩, ⟨0, 0⟩⟩,
   ⟨.gain, ⟨0, 0⟩, ⟨40, 0⟩, ⟨0, 0⟩⟩,
   ⟨.mix, ⟨0, 0⟩, ⟨1, 0⟩, ⟨0, 0⟩⟩,
   ⟨.sel3, ⟨0, 0⟩, ⟨2, 0⟩, ⟨0, 0⟩⟩,
   ⟨.hz, ⟨0, 0⟩, ⟨100, 0⟩, ⟨5, 0⟩⟩,
   ⟨.mix, ⟨0, 0⟩, ⟨1, 0⟩, ⟨5, 1⟩⟩,
   ⟨.sel4, ⟨0, 0⟩, ⟨3, 0⟩, ⟨0, 0⟩⟩,
   ⟨.mix, ⟨0, 0⟩, ⟨1, 0⟩, ⟨0, 0⟩⟩,
   ⟨.coef, ⟨0, 0⟩, ⟨99999, 5⟩, ⟨999, 3⟩⟩,
   ⟨.coef, ⟨0, 0⟩, ⟨99999, 5⟩, ⟨995, 3⟩⟩,
   ⟨.hz, ⟨1, 0⟩, ⟨20000, 0⟩, ⟨180, 0⟩⟩,
   ⟨.mix, ⟨0, 0⟩, ⟨1, 0⟩, ⟨7, 1⟩⟩,
   ⟨.gain, ⟨0, 0⟩, ⟨2, 0⟩, ⟨1, 0⟩⟩,
   ⟨.coef, ⟨0, 0⟩, ⟨99999, 5⟩, ⟨995, 3⟩⟩,
   ⟨.hz, ⟨20, 0⟩, ⟨20000, 0⟩, ⟨7000, 0⟩⟩,
   ⟨.gain, ⟨0, 0⟩, ⟨2, 0⟩, ⟨1, 0⟩⟩,
   ⟨.hz, ⟨-2000, 0⟩, ⟨2000, 0⟩, ⟨0, 0⟩⟩,
   ⟨.gain, ⟨0, 0⟩, ⟨2, 0⟩, ⟨1, 0⟩⟩]

/-- Rows 60 to 76 of R40. -/
def Config.tableD : List ParamRow :=
  [⟨.mix, ⟨0, 0⟩, ⟨1, 0⟩, ⟨0, 0⟩⟩,
   ⟨.gain, ⟨0, 0⟩, ⟨10, 0⟩, ⟨0, 0⟩⟩,
   ⟨.mix, ⟨0, 0⟩, ⟨1, 0⟩, ⟨0, 0⟩⟩,
   ⟨.mix, ⟨0, 0⟩, ⟨1, 0⟩, ⟨0, 0⟩⟩,
   ⟨.gain, ⟨0, 0⟩, ⟨4, 0⟩, ⟨0, 0⟩⟩,
   ⟨.acoef, ⟨0, 0⟩, ⟨9995, 4⟩, ⟨9, 1⟩⟩,
   ⟨.coef, ⟨0, 0⟩, ⟨99999, 5⟩, ⟨999, 3⟩⟩,
   ⟨.hz, ⟨20, 0⟩, ⟨20000, 0⟩, ⟨20000, 0⟩⟩,
   ⟨.mix, ⟨0, 0⟩, ⟨1, 0⟩, ⟨0, 0⟩⟩,
   ⟨.mix, ⟨0, 0⟩, ⟨1, 0⟩, ⟨5, 1⟩⟩,
   ⟨.mix, ⟨0, 0⟩, ⟨1, 0⟩, ⟨5, 1⟩⟩,
   ⟨.mix, ⟨0, 0⟩, ⟨1, 0⟩, ⟨0, 0⟩⟩,
   ⟨.db, ⟨-24, 0⟩, ⟨24, 0⟩, ⟨0, 0⟩⟩,
   ⟨.db, ⟨-24, 0⟩, ⟨24, 0⟩, ⟨0, 0⟩⟩,
   ⟨.db, ⟨-24, 0⟩, ⟨24, 0⟩, ⟨0, 0⟩⟩,
   ⟨.gain, ⟨0, 0⟩, ⟨4, 0⟩, ⟨1, 0⟩⟩,
   ⟨.sel3, ⟨0, 0⟩, ⟨2, 0⟩, ⟨1, 0⟩⟩]

/-- The parameter table with its reference values (R40). -/
def Config.paramTable : List ParamRow := Config.tableA ++ Config.tableB ++ Config.tableC ++ Config.tableD

/-! ## The reference instance -/

/-- The reference value of every field of `CFG` (R10). `SNAP_ORDER`, which R10 leaves open, is given the identity:
DESIGN CHOICE, assumption 2; no statement rests on it. -/
def Config.reference : Cfg where
  cmdqDepth := 64
  nparam := 77
  ptRanges := Config.paramTable.map (fun r => ⟨Dec.toF32 r.min, Dec.toF32 r.max⟩)
  ptResets := Config.paramTable.map (fun r => Dec.toF32 r.reset)
  snapOrder := List.range 77
  coefMax := F32.dec 99999 5
  atkCoefMax := F32.dec 9995 4
  kickSeed0 := 0x12345678#32
  snareRng0 := 0x9E3779B9#32
  hatRng0 := 0x7F4A7C15#32
  lcgA := 1664525#32
  lcgC := 1013904223#32
  xsA := 13
  xsB := 17
  xsC := 5
  revCombLen := ⟨⟨1116, 1188, 1277, 1356⟩, ⟨1139, 1211, 1300, 1379⟩⟩
  revApLen := ⟨⟨556, 441⟩, ⟨579, 464⟩⟩
  revApG := F32.dec 5 1
  revFbBase := F32.dec 7 1
  revFbScale := F32.dec 28 2
  revDampScale := F32.dec 4 1
  revInGain := F32.dec 12 2
  difLen := ⟨⟨142, 107, 379, 277⟩, ⟨165, 130, 402, 300⟩⟩
  difG := F32.dec 5 1
  hilA := ⟨⟨F32.dec 6923878 7, F32.dec 9360654322959 13, F32.dec 9882295226860 13, F32.dec 9987488452737 13⟩,
    ⟨F32.dec 4021921162426 13, F32.dec 8561710882420 13, F32.dec 9722909545651 13, F32.dec 9952884791278 13⟩⟩
  ottXloHz := F32.ofNat 150
  ottXhiHz := F32.ofNat 2500
  ottAttS := F32.dec 5 3
  ottRelS := F32.dec 100 3
  ottTUp := F32.dec 1 1
  ottTDown := F32.dec 5 1
  ottFloor := F32.dec 1 3
  ottGmax := F32.dec 40 1
  fxToneBypassHz := F32.ofNat 20000

/-! ## The elementary functions left open (R11)

Opaque: nothing in Lean can prove a value of one. Machine/Elementary.lean builds from each the function the rules call,
which has the properties R11 names and no other (assumption 4). -/

/-- The free part of `EXP`. -/
opaque Config.expRaw : F32 → F32
/-- The free part of `EXP2`. -/
opaque Config.exp2Raw : F32 → F32
/-- The free part of `SIN`. -/
opaque Config.sinRaw : F32 → F32
/-- The free part of `COS`. -/
opaque Config.cosRaw : F32 → F32
/-- The free part of `TANH`. -/
opaque Config.tanhRaw : F32 → F32

end Sys2Proof
end

