-- ==== Sys2Proof/Machine/Elementary.lean ====
section
/-! DEFINITION. Machine/Elementary.lean: `EXP`, `EXP2`, `SIN`, `COS`, `TANH` (R11): the opaque functions of Config,
corrected at the operands where R11 names a property. Each ranges over all functions with those properties as the
opaque part ranges over all functions (assumptions 4, 5, 6). -/

namespace Sys2Proof.Machine

/-- The least positive value, which stands where a free part is not positive (assumption 5). -/
def leastPositive : F32 := ⟨1#32⟩

/-- `y` if `y > 0`, else the least positive value. -/
def positive (y : F32) : F32 := if F32.zero.lt y then y else leastPositive

/-- `y` if `0 < y ≤ 1`, else the least positive value. -/
def positiveUnit (y : F32) : F32 := if y.le F32.one then positive y else leastPositive

/-- `y` if `|y| ≤ 1`, else `d`. -/
def unitAbsOr (d y : F32) : F32 := if y.abs.le F32.one then y else d

/-- `EXP` (R11): a NaN gives a NaN; `EXP(0) = 1`; `0 < EXP(x) ≤ 1` for every finite `x ≤ 0` (assumption 5). -/
def EXP (x : F32) : F32 :=
  if x.isNaN then F32.nan
  else if x.isZero then F32.one
  else if x.isFinite && x.isNeg then positiveUnit (Config.expRaw x)
  else Config.expRaw x

/-- `EXP2` (R11): a NaN gives a NaN; `EXP2(0) = 1`, `EXP2(1) = 2`, `EXP2(-1) = 0.5`; `EXP2(x) > 0` for finite
`x` (assumption 5). -/
def EXP2 (x : F32) : F32 :=
  if x.isNaN then F32.nan
  else if x.isZero then F32.one
  else if x = F32.one then F32.two
  else if x = F32.one.neg then F32.half
  else if x.isFinite then positive (Config.exp2Raw x)
  else Config.exp2Raw x

/-- An odd function from its values at magnitudes. -/
def oddOf (f : F32 → F32) (x : F32) : F32 := if x.isNeg then (f x.abs).neg else f x.abs

/-- `SIN` at a magnitude: `SIN(0) = 0`, and within [-1, 1] at finite operands. -/
def sinMag (m : F32) : F32 :=
  if m.isZero then F32.zero else if m.isFinite then unitAbsOr F32.zero (Config.sinRaw m) else Config.sinRaw m

/-- `TANH` at a magnitude: `TANH(0) = 0`, and within [-1, 1] at finite operands. -/
def tanhMag (m : F32) : F32 :=
  if m.isZero then F32.zero else if m.isFinite then unitAbsOr F32.zero (Config.tanhRaw m) else Config.tanhRaw m

/-- `SIN` (R11): odd, `SIN(0) = 0`, `|SIN(x)| ≤ 1` at finite `x`, a NaN gives a NaN. -/
def SIN (x : F32) : F32 := if x.isNaN then F32.nan else oddOf sinMag x

/-- `TANH` (R11): odd, `TANH(0) = 0`, `|TANH(x)| ≤ 1` at finite `x`, a NaN gives a NaN. -/
def TANH (x : F32) : F32 := if x.isNaN then F32.nan else oddOf tanhMag x

/-- `COS` (R11): `COS(0) = 1`, `|COS(x)| ≤ 1` at finite `x`, a NaN gives a NaN. -/
def COS (x : F32) : F32 :=
  if x.isNaN then F32.nan
  else if x.isZero then F32.one
  else if x.isFinite then unitAbsOr F32.one (Config.cosRaw x)
  else Config.cosRaw x

end Sys2Proof.Machine
end

