-- ==== Sys2Proof/Machine/Store.lean ====
section
/-! DEFINITION. Machine/Store.lean: an element-indexed space (R70) as a sparse list of (index, element) pairs in one
canonical form: indices strictly rising, no pair that holds what an unlisted index reads as (assumption 15). -/

namespace Sys2Proof.Machine

/-- An element-indexed space: the elements that differ from what an unlisted index reads as. -/
abbrev Store (α : Type) := List (Nat × α)

/-- `MemRead` (R16): the whole element at index `i`; `d` is what `i` reads as when unlisted. -/
def Store.get {α : Type} (d : α) : Store α → Nat → α
  | [], _ => d
  | (j, v) :: m, i => if j = i then v else Store.get d m i

/-- `MemWrite` (R16): replaces the whole element at index `i`; `d` is what `i` reads as when unlisted. -/
def Store.put {α : Type} [DecidableEq α] (d : α) : Store α → Nat → α → Store α
  | [], i, v => if v = d then [] else [(i, v)]
  | (j, w) :: m, i, v =>
    if i < j then (if v = d then (j, w) :: m else (i, v) :: (j, w) :: m)
    else if i = j then (if v = d then m else (i, v) :: m)
    else (j, w) :: Store.put d m i v

/-- Every listed index is at least `lo` and the indices rise strictly. -/
def Store.rising {α : Type} : Nat → Store α → Bool
  | _, [] => true
  | lo, (j, _) :: m => decide (lo ≤ j) && Store.rising (j + 1) m

/-- The canonical form; `d i` is what index `i` reads as when unlisted. -/
def Store.wf {α : Type} [DecidableEq α] (d : Nat → α) (m : Store α) : Bool :=
  Store.rising 0 m && m.all (fun e => decide (e.2 ≠ d e.1))

end Sys2Proof.Machine
end

