-- ==== Sys2Proof/Machine/Records.lean ====
section
/-! DEFINITION. Machine/Records.lean: the state records of 10_state.md, field by field, as plain data. -/

namespace Sys2Proof.Machine

/-! ## Primitives' records (R46 to R49) -/

/-- `DecayEnv` (R46). -/
structure DecayEnv where
  value : F32
deriving DecidableEq, Repr

/-- The states of an attack-decay envelope (R46, R134). -/
inductive ADState where
  | off
  | attack
  | decay
deriving DecidableEq, Repr

/-- `ADEnv` (R46). -/
structure ADEnv where
  state : ADState
  value : F32
deriving DecidableEq, Repr

/-- `OnePole` (R47): one memory, for a low-pass or a high-pass. The records below hold the 18 that R157 lists by name,
where it counts 19 (DEDUCED, assumption 28). -/
structure OnePole where
  z : F32
deriving DecidableEq, Repr

/-- `Rng` (R48): the xorshift32 state. -/
structure Rng where
  s : BitVec 32
deriving DecidableEq, Repr

/-- `Osc` (R48). -/
structure Osc where
  phase : F32
deriving DecidableEq, Repr

/-- `Delay(N)` (R49), also `Allpass(N)`; `N` is a field of `CFG`. -/
structure Delay where
  buf : Store F32
  idx : Nat
deriving DecidableEq, Repr

/-- `Comb(N)` (R49): a delay and its damping memory. -/
structure Comb where
  line : Delay
  filt : F32
deriving DecidableEq, Repr

/-- The memory of one Hilbert allpass section (R53). -/
structure HilMem where
  x1 : F32
  x2 : F32
  y1 : F32
  y2 : F32
deriving DecidableEq, Repr

/-! ## The pattern and the transport -/

/-- One step of the pattern (R24). -/
structure PatStep where
  on : Bool
  velocity : F32
deriving DecidableEq, Repr

/-- `T` (R28 to R32). -/
structure Transport where
  bpm : F32
  playing : Bool
  stepIndex : BitVec 4
  currentFrame : BitVec 64
  nextStepFrame : F64
deriving DecidableEq, Repr

/-! ## Voices, effects, master (R50 to R55) -/

/-- `K` (R50). `envL`, `phL` hold layers 1 and 2 as `j0`, `j1`; `chLp` holds chains A and B as `j0`, `j1`. -/
structure Kick where
  active : Bool
  envAmp : DecayEnv
  envPitch : DecayEnv
  envDrive : DecayEnv
  envTail : DecayEnv
  envL : Two ADEnv
  phBody : Osc
  phTail : Osc
  phL : Two Osc
  lfo : Osc
  seed : BitVec 32
  rng : Rng
  preHp : OnePole
  subLp : OnePole
  chLp : Two OnePole
  tokHp : OnePole
  postLp : OnePole
  postHp : OnePole
  fbPrev : F32
  osPrev : F32
deriving DecidableEq, Repr

/-- `SN` (R51). -/
structure Snare where
  active : Bool
  envAmp : DecayEnv
  envTone : DecayEnv
  phase : Osc
  rng : Rng
deriving DecidableEq, Repr

/-- `HT` (R52). -/
structure Hat where
  active : Bool
  envAmp : DecayEnv
  hp : OnePole
  rng : Rng
  cutHz : F32
  coef : F32
deriving DecidableEq, Repr

/-- `FX` (R53). `hil` holds branches `b = 0, 1`. -/
structure FX where
  hil : Two (Four HilMem)
  hilD : F32
  shOsc : Osc
  dif : LR (Four Delay)
  ottLo : LR OnePole
  ottHi : LR OnePole
  ottEnv : LR (Bands F32)
  trEnv : ADEnv
  tone : LR OnePole
deriving DecidableEq, Repr

/-- `RV` (R54). -/
structure Reverb where
  comb : LR (Four Comb)
  ap : LR (Two Delay)
deriving DecidableEq, Repr

/-- `MS` (R55). -/
structure Master where
  lpLo : LR OnePole
  lpHi : LR OnePole
deriving DecidableEq, Repr

/-! ## The global record (R21, R22) -/

/-- `G.phase` (R22). -/
inductive Phase where
  | drain
  | snap
  | tick
deriving DecidableEq, Repr

/-- What the engine holds while a render is in flight (R22). `snapLeft` lists the cells still to be read in the order
in which they will be; `numFrames` is the argument with a negative value counted as 0 (R345). -/
structure Render where
  phase : Phase
  snapLeft : List Nat
  n : BitVec 32
  numFrames : BitVec 32
  numChannels : BitVec 8
deriving DecidableEq, Repr

/-- `G` (R21, R22). `G.busy` is "a render is in flight" (assumption 19). -/
structure Global where
  prepared : Bool
  sr : F32
  maxBlk : BitVec 32
  render : Option Render
deriving DecidableEq, Repr

/-- `G.busy` (R22). -/
def Global.busy (g : Global) : Bool := g.render.isSome

/-! ## The host's side of the ports -/

/-- `OUT` (R70, R72): how many elements the present `PROCESS` has written, in index order, and those that are not
`+0.0` (assumption 14). -/
structure OutBuf where
  len : Nat
  cells : Store F32
deriving DecidableEq, Repr

/-- When a word reaches the block, seen from the word before it (assumption 9). -/
inductive Arrival where
  /-- Once no render is in flight. -/
  | whenIdle
  /-- After `n` engine micro-steps, or once no render is in flight if that comes first. -/
  | after (n : Nat)
deriving DecidableEq, Repr

/-- A word presented on a port (R320). -/
structure Presented where
  port : Port
  word : W64
  arrival : Arrival
deriving DecidableEq, Repr

end Sys2Proof.Machine
end

