-- ==== Sys2Proof/Machine/Init.lean ====
section
/-! DEFINITION. Machine/Init.lean: the reset columns of 10_state.md (R46 to R55), the parameter table's ranges and
reset values (R10, R40), and the transport after `PREPARE` (R29 to R32). -/

namespace Sys2Proof.Machine

def DecayEnv.reset : DecayEnv := ⟨F32.zero⟩
def ADEnv.reset : ADEnv := ⟨.off, F32.zero⟩
def OnePole.reset : OnePole := ⟨F32.zero⟩
def Osc.reset : Osc := ⟨F32.zero⟩
def Delay.reset : Delay := ⟨[], 0⟩
def Comb.reset : Comb := ⟨Delay.reset, F32.zero⟩
def HilMem.reset : HilMem := ⟨F32.zero, F32.zero, F32.zero, F32.zero⟩

/-- Four of the same. -/
def four {α : Type} (x : α) : Four α := ⟨x, x, x, x⟩
/-- Two of the same. -/
def two {α : Type} (x : α) : Two α := ⟨x, x⟩
/-- The same on both channels. -/
def both {α : Type} (x : α) : LR α := ⟨x, x⟩

/-- The step that `CLEARPATTERN` and `PREPARE` leave (R23, R333). -/
def PatStep.clear : PatStep := ⟨false, F32.zero⟩

/-- A noise state from a seed: 1 in place of 0 (R50, R153). -/
def Rng.ofSeed (seed : BitVec 32) : Rng := ⟨if seed = 0#32 then 1#32 else seed⟩

/-- `K` at reset (R50). -/
def Kick.reset (c : Cfg) : Kick where
  active := false
  envAmp := DecayEnv.reset
  envPitch := DecayEnv.reset
  envDrive := DecayEnv.reset
  envTail := DecayEnv.reset
  envL := two ADEnv.reset
  phBody := Osc.reset
  phTail := Osc.reset
  phL := two Osc.reset
  lfo := Osc.reset
  seed := c.kickSeed0
  rng := Rng.ofSeed c.kickSeed0
  preHp := OnePole.reset
  subLp := OnePole.reset
  chLp := two OnePole.reset
  tokHp := OnePole.reset
  postLp := OnePole.reset
  postHp := OnePole.reset
  fbPrev := F32.zero
  osPrev := F32.zero

/-- `SN` at reset (R51). -/
def Snare.reset (c : Cfg) : Snare where
  active := false
  envAmp := DecayEnv.reset
  envTone := DecayEnv.reset
  phase := Osc.reset
  rng := ⟨c.snareRng0⟩

/-- `HT` at reset (R52): the cached cutoff is a NaN, which equals no cutoff. -/
def Hat.reset (c : Cfg) : Hat where
  active := false
  envAmp := DecayEnv.reset
  hp := OnePole.reset
  rng := ⟨c.hatRng0⟩
  cutHz := F32.nan
  coef := F32.zero

/-- `FX` at reset (R53). -/
def FX.reset : FX where
  hil := two (four HilMem.reset)
  hilD := F32.zero
  shOsc := Osc.reset
  dif := both (four Delay.reset)
  ottLo := both OnePole.reset
  ottHi := both OnePole.reset
  ottEnv := both ⟨F32.zero, F32.zero, F32.zero⟩
  trEnv := ADEnv.reset
  tone := both OnePole.reset

/-- `RV` at reset (R54). -/
def Reverb.reset : Reverb where
  comb := both (four Comb.reset)
  ap := both (two Delay.reset)

/-- `MS` at reset (R55). -/
def Master.reset : Master where
  lpLo := both OnePole.reset
  lpHi := both OnePole.reset

/-- `T` after `PREPARE` (R29 to R32, R400). -/
def Transport.prepared : Transport where
  bpm := F32.ofNat 120
  playing := false
  stepIndex := 0#4
  currentFrame := 0#64
  nextStepFrame := F64.zero

/-- `PT_RESET[i]` (R10, R40); an index past the table has no cell and reads as 0. -/
def ptReset (c : Cfg) (i : Nat) : F32 :=
  match c.ptResets[i]? with
  | some v => v
  | none => F32.zero

/-- The kind of parameter `i` (R40), which no configuration changes; none past the table. -/
def paramKind (i : Nat) : Option ParamKind := Config.paramTable[i]?.map (·.kind)

/-- The lower end of `PT_RANGE[i]` (R10, R40, R334). -/
def ptMin (c : Cfg) (i : Nat) : F32 :=
  match c.ptRanges[i]? with
  | some r => r.min
  | none => F32.zero

/-- The bound that R10 and R40 set beside `PT_RANGE[i]`: `COEF_MAX` on a decay coefficient, `ATK_COEF_MAX` on an attack
coefficient, `FEEDBACK_MAX` on the feedback; none on any other parameter. -/
def ptCap (c : Cfg) (i : Nat) : Option F32 :=
  match paramKind i with
  | some .coef => some c.coefMax
  | some .acoef => some c.atkCoefMax
  | _ => if i = Param.K_FEEDBACK then some Config.feedbackMax else none

/-- The upper end of parameter `i`'s range (R10, R40, R334): that of `PT_RANGE[i]`, or its bound where that is less. -/
def ptMax (c : Cfg) (i : Nat) : F32 :=
  match c.ptRanges[i]? with
  | none => F32.zero
  | some r =>
    match ptCap c i with
    | some m => r.max.min m
    | none => r.max

end Sys2Proof.Machine
end

