-- ==== Sys2Proof/Machine/State.lean ====
section
/-! DEFINITION. Machine/State.lean: the machine's state, its faults and refusals, and the machine at power-on. -/

namespace Sys2Proof.Machine

/-- The whole state: the records of R20, and three fields of the model's own: `cfg` (the configuration, which no step
writes; assumption 1), `inbox` (the words the two client agents have yet to present, in the order in which they reach
the block; assumption 9) and `resps` (the responses given, newest first; assumption 13). -/
structure State where
  cfg : Cfg
  inbox : List Presented
  resps : List (Port × BitVec 32)
  out : OutBuf
  g : Global
  pat : Store PatStep
  pt : Store F32
  p : Store F32
  q : List W64
  t : Transport
  k : Kick
  sn : Snare
  ht : Hat
  fx : FX
  rv : Reverb
  ms : Master
deriving DecidableEq, Repr

/-- Faults: there are none. "The block raises no synchronous exception and no interrupt, and takes none. No operation
can fault" (R370); the type has no constructor, so no step can answer with one. -/
inductive Fault where
deriving DecidableEq, Repr

/-- Refusals. -/
inductive Refusal where
  /-- An arm of `exec` that has no meaning yet. Raised by no arm of this model. Safe: the machine stops. -/
  | notModelled (mnemonic : String)
deriving DecidableEq, Repr

/-- The machine at power-on (R21, R60, R403): `G.prepared` and `G.busy` false are the spec's. Every other field "holds
no value" until `PREPARE` and is read by no rule before it; the model gives each the value `PREPARE` gives it, and 0 to
`G.sr` and `G.maxBlk` (DESIGN CHOICE, assumption 8). -/
def State.reset : State where
  cfg := Config.reference
  inbox := []
  resps := []
  out := ⟨0, []⟩
  g := ⟨false, F32.zero, 0#32, none⟩
  pat := []
  pt := []
  p := []
  q := []
  t := Transport.prepared
  k := Kick.reset Config.reference
  sn := Snare.reset Config.reference
  ht := Hat.reset Config.reference
  fx := FX.reset
  rv := Reverb.reset
  ms := Master.reset

end Sys2Proof.Machine
end

