-- ==== Sys2Proof/Machine/Operands.lean ====
section
/-! DEFINITION. Machine/Operands.lean: every operand form: clamps and checks of host operands (R331, R332, R334, R404),
selectors (R18) and the enumerations they select (R120), and reads of parameters (R26). -/

namespace Sys2Proof.Machine

/-- A value clamped to `[lo, hi]` by the two tests of R331, R332, R334, in their order. -/
def clampTo (lo hi v : F32) : F32 :=
  if (if v.lt lo then lo else v).gt hi then hi else if v.lt lo then lo else v

/-- A tempo clamped to [40, 240] (R331). -/
def clampBpm (bpm : F32) : F32 := clampTo Config.bpmMin Config.bpmMax bpm

/-- A velocity clamped to [0, 1] (R332). -/
def clampVelocity (v : F32) : F32 := clampTo F32.zero F32.one v

/-- A parameter value clamped to its range (R334). -/
def clampParam (c : Cfg) (i : Nat) (v : F32) : F32 := clampTo (ptMin c i) (ptMax c i) v

/-- The lane and step name an element of the pattern (R71, R332, R341). -/
def stepExists (lane step : BitVec 8) : Bool := decide (lane.toNat < 3) && decide (step.toNat < 16)

/-- Where `PAT[lane][step]` stands among the 48 elements (R70). -/
def patIndex (lane step : Nat) : Nat := lane * 16 + step

/-- A sample rate `PREPARE` takes: not a NaN, finite, greater than 0 (R400, R404). -/
def rateAccepted (sr : F32) : Bool := !sr.isNaN && !sr.isInf && sr.gt F32.zero

/-- `numFrames` read as two's complement, a negative value counted as 0 (R103, R345). -/
def frameCount (numFrames : BitVec 32) : BitVec 32 := if numFrames.msb then 0#32 else numFrames

/-! ## Selectors (R18) -/

/-- `sel2`: `v ≥ 0.5` selects the second. -/
def sel2 {α : Type} (v : F32) (a0 a1 : α) : α := if v.ge F32.half then a1 else a0

/-- `sel3`: thresholds 0.5, 1.5. -/
def sel3 {α : Type} (v : F32) (a0 a1 a2 : α) : α :=
  if v.lt F32.half then a0 else if v.lt (F32.dec 15 1) then a1 else a2

/-- `sel4`: thresholds 0.5, 1.5, 2.5. -/
def sel4 {α : Type} (v : F32) (a0 a1 a2 a3 : α) : α :=
  if v.lt F32.half then a0 else if v.lt (F32.dec 15 1) then a1 else if v.lt (F32.dec 25 1) then a2 else a3

/-- `selClip`: below -0.5 is the sentinel GLOBAL, else `sel3`. -/
def selClip {α : Type} (v : F32) (glob a0 a1 a2 : α) : α :=
  if v.lt (F32.dec (-5) 1) then glob else sel3 v a0 a1 a2

/-- Clip modes (R120). -/
inductive ClipMode where
  | tanh | hard | foldback
deriving DecidableEq, Repr

/-- Oscillator types (R120). -/
inductive OscType where
  | sine | triangle | square | noise
deriving DecidableEq, Repr

/-- LFO waveforms (R120). -/
inductive LfoWave where
  | sine | triangle | square
deriving DecidableEq, Repr

/-- LFO targets (R120). -/
inductive LfoTarget where
  | pitch | drive | cutoff | phase
deriving DecidableEq, Repr

/-- Master clip (R120). -/
inductive MasterClip where
  | off | soft | hard
deriving DecidableEq, Repr

def selClipMode (v : F32) : ClipMode := sel3 v .tanh .hard .foldback
def selOscType (v : F32) : OscType := sel4 v .sine .triangle .square .noise
def selLfoWave (v : F32) : LfoWave := sel3 v .sine .triangle .square
def selLfoTarget (v : F32) : LfoTarget := sel4 v .pitch .drive .cutoff .phase
def selMasterClip (v : F32) : MasterClip := sel3 v .off .soft .hard

/-! ## Reads of the spaces (R70) -/

/-- `PT[i]`. -/
def State.ptAt (s : State) (i : Nat) : F32 := Store.get (ptReset s.cfg i) s.pt i

/-- `P[i]`: what every rule that names a parameter reads (R26). -/
def State.par (s : State) (i : Nat) : F32 := Store.get (ptReset s.cfg i) s.p i

/-- `PAT[lane][step]`. -/
def State.patAt (s : State) (lane step : Nat) : PatStep := Store.get PatStep.clear s.pat (patIndex lane step)

/-- `OUT[i]`: none until the present `PROCESS` has written it. -/
def OutBuf.at? (o : OutBuf) (i : Nat) : Option F32 := if i < o.len then some (Store.get F32.zero o.cells i) else none

end Sys2Proof.Machine
end

