-- ==== Sys2Proof/Machine/Flags.lean ====
section
/-! DEFINITION. Machine/Flags.lean: the Boolean state and what computes it (R57): envelope and voice activity. The block
has no condition codes. -/

namespace Sys2Proof.Machine

/-- `DecayEnv.isActive` (R132). -/
def DecayEnv.isActive (e : DecayEnv) : Bool := e.value.gt Config.envEps

/-- `ADEnv.isActive` (R137). -/
def ADEnv.isActive (e : ADEnv) : Bool := decide (e.state ≠ .off)

/-- The kick's activity test (R209): the amplitude envelope and both layer envelopes govern. -/
def Kick.governed (k : Kick) : Bool := k.envAmp.isActive || k.envL.j0.isActive || k.envL.j1.isActive

end Sys2Proof.Machine
end

