-- ==== Sys2Proof/Machine/Envelopes.lean ====
section
/-! DEFINITION. Machine/Envelopes.lean: the two envelope generators (40_envelopes.md). -/

namespace Sys2Proof.Machine

/-- `DecayEnv.trigger` (R130). -/
def DecayEnv.trigger (_ : DecayEnv) (startLevel : F32) : DecayEnv := ⟨startLevel⟩

/-- `DecayEnv.next` (R131): output, then multiply. Repeated, it ends at exactly 0 only for `c` at or below 0.5: for a
greater `c` the product rounds back to the same subnormal (R13), where R131's prose has it reach 0 (DEDUCED, assumption
27). -/
def DecayEnv.next (e : DecayEnv) (c : F32) : F32 × DecayEnv := (e.value, ⟨e.value.mul c⟩)

/-- `ADEnv.trigger` (R135). -/
def ADEnv.trigger (_ : ADEnv) : ADEnv := ⟨.attack, F32.zero⟩

/-- The value after one attack update: `1 - (1 - value)·ca` (R136). -/
def attackValue (v ca : F32) : F32 := F32.one.sub ((F32.one.sub v).mul ca)

/-- `ADEnv.next` (R136). -/
def ADEnv.next (e : ADEnv) (ca cd : F32) : F32 × ADEnv :=
  match e.state with
  | .off => (F32.zero, e)
  | .attack =>
    (attackValue e.value ca,
      ⟨if (F32.one.sub (attackValue e.value ca)).le Config.envEps then .decay else .attack, attackValue e.value ca⟩)
  | .decay =>
    (e.value, ⟨if (e.value.mul cd).gt Config.envEps then .decay else .off, e.value.mul cd⟩)

end Sys2Proof.Machine
end

