-- ==== Sys2Proof/Machine/Primitives.lean ====
section
/-! DEFINITION. Machine/Primitives.lean: noise, one-pole filters, saturators, phase and waves, LFO, delay lines,
oversampler, gain (41_primitives.md). -/

namespace Sys2Proof.Machine

/-! ## Noise (R151 to R153) -/

/-- `xorshift32` (R151), with the shifts of `CFG`. -/
def xorshift32 (c : Cfg) (s : BitVec 32) : BitVec 32 :=
  let s1 := s ^^^ (s <<< c.xsA)
  let s2 := s1 ^^^ (s1 >>> c.xsB)
  s2 ^^^ (s2 <<< c.xsC)

/-- The float of a noise state: its top 24 bits scaled to [-1, 1) (R152). -/
def noiseFloat (s : BitVec 32) : F32 :=
  ((F32.ofNat (s >>> 8).toNat).mul ⟨0x34000000#32⟩).sub F32.one

/-- `white` (R152): step the state, then map it. -/
def white (c : Cfg) (r : Rng) : F32 × Rng := (noiseFloat (xorshift32 c r.s), ⟨xorshift32 c r.s⟩)

/-- The LCG step of the per-hit seed (R153). -/
def lcgStep (c : Cfg) (seed : BitVec 32) : BitVec 32 := seed * c.lcgA + c.lcgC

/-- `reseed` (R153). -/
def Kick.reseed (c : Cfg) (k : Kick) : Kick :=
  { k with seed := lcgStep c k.seed, rng := Rng.ofSeed (lcgStep c k.seed) }

/-! ## One-pole filters (R154 to R156) -/

/-- `lpCoef` (R154). Its greatest value is 1.0, reached once `EXP` is at most 2^-25, where R154's prose has it below 1
(DEDUCED, assumption 29). -/
def lpCoef (fc sr : F32) : F32 := F32.one.sub (EXP ((Config.twoPi.mul fc).div sr).neg)

/-- `LP.step` (R155): `z <- z + a·(x - z)`, and the output is the new memory. -/
def LP.step (o : OnePole) (a x : F32) : F32 × OnePole :=
  (o.z.add (a.mul (x.sub o.z)), ⟨o.z.add (a.mul (x.sub o.z))⟩)

/-- `HP.step` (R156): `x` minus its low-pass. -/
def HP.step (o : OnePole) (a x : F32) : F32 × OnePole := (x.sub (LP.step o a x).1, (LP.step o a x).2)

/-! ## Saturators (R158 to R163) -/

/-- `softClip` (R158). Its numerator overflows before `x*x` does, where R158's prose has it grow on towards `x/9`
(DEDUCED, assumption 30). -/
def softClip (x : F32) : F32 :=
  (x.mul ((F32.ofNat 27).add (x.mul x))).div ((F32.ofNat 27).add ((F32.ofNat 9).mul (x.mul x)))

/-- `hardClip` (R159): a NaN passes. -/
def hardClip (x : F32) : F32 :=
  if x.gt F32.one then F32.one else if x.lt F32.one.neg then F32.one.neg else x

/-- `foldback` (R160). `x - t` is rounded, so it is odd, periodic and the triangle wave of R160's prose only up to that
rounding (DEDUCED, assumption 30). -/
def foldback (x t : F32) : F32 :=
  if !t.gt F32.zero then F32.zero
  else if x.le t && x.ge t.neg then x
  else (((((x.sub t).fmod ((F32.ofNat 4).mul t)).abs.sub (F32.two.mul t)).abs).sub t)

/-- `tanhClip` (R161). -/
def tanhClip (x : F32) : F32 := TANH x

/-- `clip` (R162). -/
def clip (mode : ClipMode) (x t : F32) : F32 :=
  match mode with
  | .tanh => tanhClip x
  | .hard => hardClip x
  | .foldback => foldback x t

/-- `clamp2` (R163): a NaN becomes 0. -/
def clamp2 (x : F32) : F32 :=
  if x.isNaN then F32.zero
  else if x.gt F32.two then F32.two
  else if x.lt F32.two.neg then F32.two.neg
  else x

/-! ## Phase and waveforms (R164 to R169) -/

/-- `0 ≤ p < TWO_PI`. -/
def inTurn (p : F32) : Bool := p.ge F32.zero && p.lt Config.twoPi

/-- `wrap2pi` (R164). -/
def wrap2pi (p : F32) : F32 :=
  if inTurn p then p
  else if inTurn (p.sub ((p.div Config.twoPi).floor.mul Config.twoPi))
    then p.sub ((p.div Config.twoPi).floor.mul Config.twoPi)
  else F32.zero

/-- `adv` (R165). -/
def adv (phase f sr : F32) : F32 := wrap2pi (phase.add ((Config.twoPi.mul f).div sr))

/-- `tri` (R166). -/
def tri (p : F32) : F32 :=
  let u := (wrap2pi p).div Config.twoPi
  if u.lt (F32.dec 25 2) then (F32.ofNat 4).mul u
  else if u.lt (F32.dec 75 2) then F32.two.sub ((F32.ofNat 4).mul u)
  else ((F32.ofNat 4).mul u).sub (F32.ofNat 4)

/-- `square` (R167). -/
def square (p duty : F32) : F32 :=
  if (wrap2pi p).lt (duty.mul Config.twoPi) then F32.one else F32.one.neg

/-- `wave` (R168): the noise state moves only when the kind is noise. -/
def wave (c : Cfg) (kind : OscType) (p : F32) (r : Rng) : F32 × Rng :=
  match kind with
  | .sine => (SIN p, r)
  | .triangle => (tri p, r)
  | .square => (square p F32.half, r)
  | .noise => white c r

/-- The LFO's waveform at a phase (R169). -/
def lfoOut (kind : LfoWave) (ph duty : F32) : F32 :=
  match kind with
  | .sine => SIN ph
  | .triangle => tri ph
  | .square => square ph duty

/-- `LFO.next` (R169): output, then advance. -/
def LFO.next (o : Osc) (kind : LfoWave) (rate duty sr : F32) : F32 × Osc :=
  (lfoOut kind o.phase duty, ⟨adv o.phase rate sr⟩)

/-! ## Delay lines (R170 to R172) -/

/-- The element at the cursor (R170). -/
def Delay.read (d : Delay) : F32 := Store.get F32.zero d.buf d.idx

/-- Write at the cursor, then advance it with wrap (R170, R73). -/
def Delay.push (n : Nat) (d : Delay) (v : F32) : Delay :=
  ⟨Store.put F32.zero d.buf d.idx v, (d.idx + 1) % n⟩

/-- `Comb.step` (R171) for a line of `n` elements. -/
def Comb.step (n : Nat) (cb : Comb) (x fb damp : F32) : F32 × Comb :=
  let y := cb.line.read
  let filt := (y.mul (F32.one.sub damp)).add (cb.filt.mul damp)
  (y, ⟨cb.line.push n (x.add (filt.mul fb)), filt⟩)

/-- `Allpass.step` (R172) for a line of `n` elements. -/
def Allpass.step (n : Nat) (a : Delay) (x g : F32) : F32 × Delay :=
  let d := a.read
  let v := x.add (g.mul d)
  (d.sub (g.mul v), a.push n v)

/-! ## Oversampler and gain (R173, R174) -/

/-- `Oversample2x` (R173): midpoint, then endpoint; `F`'s state `σ` is threaded through both. -/
def Oversample2x {σ : Type} (prev x : F32) (F : F32 → σ → F32 × σ) (st : σ) : F32 × σ :=
  let r1 := F (F32.half.mul (prev.add x)) st
  let r2 := F x r1.2
  (F32.half.mul (r1.1.add r2.1), r2.2)

/-- `dbGain` (R174). -/
def dbGain (d : F32) : F32 := EXP2 (d.mul Config.dbToLog2)

end Sys2Proof.Machine
end

