-- ==== Sys2Proof/Machine/Effects.lean ====
section
/-! DEFINITION. Machine/Effects.lean: the kick FX chain and the reverb (44_fx_reverb.md), the master section
(45_master.md). `p i` is `P[i]`, `sr` is `G.sr`, `c` is `CFG`. -/

namespace Sys2Proof.Machine

/-! ## Stage 1: frequency shifter (R253, R254) -/

/-- `HilSec` (R254): one second-order allpass section with coefficient `a`. -/
def hilSec (a x : F32) (h : HilMem) : F32 × HilMem :=
  let y := ((a.mul a).mul (x.add h.y2)).sub h.x2
  (y, ⟨x, h.x1, y, h.y1⟩)

/-- A branch: four sections in cascade (R254). -/
def hilBranch (a : Four F32) (x : F32) (h : Four HilMem) : F32 × Four HilMem :=
  let r0 := hilSec a.j0 x h.j0
  let r1 := hilSec a.j1 r0.1 h.j1
  let r2 := hilSec a.j2 r1.1 h.j2
  let r3 := hilSec a.j3 r2.1 h.j3
  (r3.1, ⟨r0.2, r1.2, r2.2, r3.2⟩)

/-- `Hilbert` (R254): the pair `(I, Q)`; branch 0 is followed by a one-sample delay. -/
def FX.hilbert (c : Cfg) (x : F32) (fx : FX) : (F32 × F32) × FX :=
  let u := hilBranch c.hilA.j0 x fx.hil.j0
  let v := hilBranch c.hilA.j1 x fx.hil.j1
  ((fx.hilD, v.1), { fx with hil := ⟨u.2, v.2⟩, hilD := u.1 })

/-- The sideband the sign of the shift selects (R253). -/
def sideband (f i q ph : F32) : F32 :=
  if f.gt F32.zero then (i.mul (COS ph)).sub (q.mul (SIN ph)) else (i.mul (COS ph)).add (q.mul (SIN ph))

/-- Stage 1 (R253): the carrier phase moves on silence too, beside R354 (assumption 25). -/
def FX.shifter (c : Cfg) (p : Nat → F32) (sr : F32) (x : LR F32) (fx : FX) : LR F32 × FX :=
  let r := fx.hilbert c x.l
  let y := sideband (p Param.FX_SHIFT_HZ) r.1.1 r.1.2 fx.shOsc.phase
  (both y, { r.2 with shOsc := ⟨adv fx.shOsc.phase (p Param.FX_SHIFT_HZ).abs sr⟩ })

/-! ## Stage 2: widener (R256) -/

/-- Stage 2 (R256): no state. -/
def widen (w : F32) (x : LR F32) : LR F32 :=
  let mid := F32.half.mul (x.l.add x.r)
  let side := F32.half.mul (x.l.sub x.r)
  ⟨mid.add (side.mul w), mid.sub (side.mul w)⟩

/-! ## Stage 3: diffuser (R257) -/

/-- One channel of stage 3 (R257). -/
def diffuse (n : Four Nat) (g d x : F32) (ap : Four Delay) : F32 × Four Delay :=
  let r0 := Allpass.step n.j0 ap.j0 x g
  let r1 := Allpass.step n.j1 ap.j1 x g
  let r2 := Allpass.step n.j2 ap.j2 x g
  let r3 := Allpass.step n.j3 ap.j3 x g
  let s := (((F32.zero.add r0.1).add r1.1).add r2.1).add r3.1
  ((x.mul (F32.one.sub d)).add (((F32.dec 25 2).mul s).mul d), ⟨r0.2, r1.2, r2.2, r3.2⟩)

/-- Stage 3 (R257). -/
def FX.diffuser (c : Cfg) (p : Nat → F32) (x : LR F32) (fx : FX) : LR F32 × FX :=
  let l := diffuse c.difLen.l c.difG (p Param.FX_DIFFUSE) x.l fx.dif.l
  let r := diffuse c.difLen.r c.difG (p Param.FX_DIFFUSE) x.r fx.dif.r
  (⟨l.1, r.1⟩, { fx with dif := ⟨l.2, r.2⟩ })

/-! ## Stage 4: inflator (R258) -/

/-- One channel of stage 4 (R258). -/
def inflate (p : Nat → F32) (x : F32) : F32 :=
  (x.mul (F32.one.sub (p Param.FX_INFL_MIX))).add
    ((softClip (x.mul (F32.one.add (p Param.FX_INFL_DRIVE)))).mul (p Param.FX_INFL_MIX))

/-! ## Stage 5: OTT (R259 to R261) -/

/-- `tcCoef` (R260). -/
def tcCoef (t sr : F32) : F32 := F32.one.sub (EXP (F32.one.div (t.mul sr)).neg)

/-- `follow` (R260): the follower's new state, which is also its output. -/
def follow (c : Cfg) (sr e v : F32) : F32 :=
  let coef := if v.abs.gt e then tcCoef c.ottAttS sr else tcCoef c.ottRelS sr
  e.add (coef.mul (v.abs.sub e))

/-- `ottGain` (R261). -/
def ottGain (c : Cfg) (e amt : F32) : F32 :=
  if e.gt c.ottTDown then F32.one.sub (amt.mul (F32.one.sub (c.ottTDown.div e)))
  else if e.lt c.ottTUp && e.gt c.ottFloor then
    (F32.one.add (amt.mul ((c.ottTUp.div e).sub F32.one))).min c.ottGmax
  else F32.one

/-- The memories of one OTT channel (R53). -/
structure OttMem where
  lo : OnePole
  hi : OnePole
  env : Bands F32
deriving DecidableEq, Repr

/-- One channel of stage 5 (R259). -/
def ottChannel (c : Cfg) (sr amt x : F32) (m : OttMem) : F32 × OttMem :=
  let lo := LP.step m.lo (lpCoef c.ottXloHz sr) x
  let l2 := LP.step m.hi (lpCoef c.ottXhiHz sr) x
  let hi := x.sub l2.1
  let mid := l2.1.sub lo.1
  let eLo := follow c sr m.env.lo lo.1
  let eMid := follow c sr m.env.mid mid
  let eHi := follow c sr m.env.hi hi
  (((lo.1.mul (ottGain c eLo amt)).add (mid.mul (ottGain c eMid amt))).add (hi.mul (ottGain c eHi amt)),
    ⟨lo.2, l2.2, ⟨eLo, eMid, eHi⟩⟩)

/-- Stage 5 (R259). -/
def FX.ott (c : Cfg) (p : Nat → F32) (sr : F32) (x : LR F32) (fx : FX) : LR F32 × FX :=
  let l := ottChannel c sr (p Param.FX_OTT_AMOUNT) x.l ⟨fx.ottLo.l, fx.ottHi.l, fx.ottEnv.l⟩
  let r := ottChannel c sr (p Param.FX_OTT_AMOUNT) x.r ⟨fx.ottLo.r, fx.ottHi.r, fx.ottEnv.r⟩
  (⟨l.1, r.1⟩,
    { fx with ottLo := ⟨l.2.lo, r.2.lo⟩, ottHi := ⟨l.2.hi, r.2.hi⟩, ottEnv := ⟨l.2.env, r.2.env⟩ })

/-! ## Stages 6 to 8 (R262 to R265) -/

/-- `FX.trigger` (R262). -/
def FX.trigger (fx : FX) : FX := { fx with trEnv := fx.trEnv.trigger }

/-- Stage 6 (R263): an envelope in Attack rises on silence too (R136), beside R354 (assumption 25). -/
def FX.transient (p : Nat → F32) (x : LR F32) (fx : FX) : LR F32 × FX :=
  let e := fx.trEnv.next (p Param.FX_TRANS_ATTACK) (p Param.FX_TRANS_DECAY)
  let g := F32.one.add ((p Param.FX_TRANS_DEPTH).mul e.1)
  (⟨x.l.mul g, x.r.mul g⟩, { fx with trEnv := e.2 })

/-- Stage 7 (R264). -/
def FX.toneFilter (p : Nat → F32) (sr : F32) (x : LR F32) (fx : FX) : LR F32 × FX :=
  let l := LP.step fx.tone.l (lpCoef (p Param.FX_TONE_HZ) sr) x.l
  let r := LP.step fx.tone.r (lpCoef (p Param.FX_TONE_HZ) sr) x.r
  (⟨l.1, r.1⟩, { fx with tone := ⟨l.2, r.2⟩ })

/-- One channel of stage 8 (R265): `k` is the chain's input. -/
def dryWet (p : Nat → F32) (k x : F32) : F32 :=
  (k.mul (F32.one.sub (p Param.FX_MIX))).add (x.mul (p Param.FX_MIX))

/-- A stage, or its bypass: the pair passes and the state is frozen (R251). -/
def bypassIf (neutral : Bool) (stage : LR F32 → FX → LR F32 × FX) (r : LR F32 × FX) : LR F32 × FX :=
  if neutral then r else stage r.1 r.2

/-- Stages 1 to 7 in order, each unless its control is neutral (R250). -/
def FX.stages (c : Cfg) (p : Nat → F32) (sr k : F32) (fx : FX) : LR F32 × FX :=
  let r1 := bypassIf ((p Param.FX_SHIFT_HZ).feq F32.zero) (fun x f => f.shifter c p sr x) (both k, fx)
  let r2 := bypassIf ((p Param.FX_WIDTH).feq F32.one) (fun x f => (widen (p Param.FX_WIDTH) x, f)) r1
  let r3 := bypassIf ((p Param.FX_DIFFUSE).feq F32.zero) (fun x f => f.diffuser c p x) r2
  let r4 := bypassIf ((p Param.FX_INFL_MIX).feq F32.zero) (fun x f => (⟨inflate p x.l, inflate p x.r⟩, f)) r3
  let r5 := bypassIf ((p Param.FX_OTT_AMOUNT).feq F32.zero) (fun x f => f.ott c p sr x) r4
  let r6 := bypassIf ((p Param.FX_TRANS_DEPTH).feq F32.zero) (fun x f => f.transient p x) r5
  bypassIf ((p Param.FX_TONE_HZ).ge c.fxToneBypassHz) (fun x f => f.toneFilter p sr x) r6

/-- `FX.process` (R250): at `FX_MIX = 0` nothing of `FX` is read or written. -/
def FX.process (c : Cfg) (p : Nat → F32) (sr k : F32) (fx : FX) : LR F32 × FX :=
  if (p Param.FX_MIX).feq F32.zero then (both k, fx)
  else (⟨dryWet p k (fx.stages c p sr k).1.l, dryWet p k (fx.stages c p sr k).1.r⟩, (fx.stages c p sr k).2)

/-! ## Reverb (R270 to R272) -/

/-- One channel of the reverb (R271). -/
def reverbChannel (c : Cfg) (inp fb dp : F32) (nc : Four Nat) (na : Two Nat) (cb : Four Comb) (ap : Two Delay) :
    F32 × Four Comb × Two Delay :=
  let r0 := Comb.step nc.j0 cb.j0 inp fb dp
  let r1 := Comb.step nc.j1 cb.j1 inp fb dp
  let r2 := Comb.step nc.j2 cb.j2 inp fb dp
  let r3 := Comb.step nc.j3 cb.j3 inp fb dp
  let s := (((F32.zero.add r0.1).add r1.1).add r2.1).add r3.1
  let w0 := Allpass.step na.j0 ap.j0 ((F32.dec 25 2).mul s) c.revApG
  let w1 := Allpass.step na.j1 ap.j1 w0.1 c.revApG
  (w1.1, ⟨r0.2, r1.2, r2.2, r3.2⟩, ⟨w0.2, w1.2⟩)

/-- `Reverb.process` (R271): never bypassed (R272). -/
def Reverb.process (c : Cfg) (p : Nat → F32) (k : F32) (rv : Reverb) : LR F32 × Reverb :=
  let inp := k.mul c.revInGain
  let fb := c.revFbBase.add (c.revFbScale.mul (p Param.REV_SIZE))
  let dp := (p Param.REV_DAMP).mul c.revDampScale
  let l := reverbChannel c inp fb dp c.revCombLen.l c.revApLen.l rv.comb.l rv.ap.l
  let r := reverbChannel c inp fb dp c.revCombLen.r c.revApLen.r rv.comb.r rv.ap.r
  (⟨l.1, r.1⟩, ⟨⟨l.2.1, r.2.1⟩, ⟨l.2.2, r.2.2⟩⟩)

/-! ## Mixer and master (R351, R290) -/

/-- `Mix` (R351). -/
def mix (p : Nat → F32) (f : LR F32) (s h : F32) (w : LR F32) : LR F32 :=
  let dry := s.add h
  ⟨(f.l.add dry).add (w.l.mul (p Param.REV_MIX)), (f.r.add dry).add (w.r.mul (p Param.REV_MIX))⟩

/-- The master's clip stage (R292). -/
def masterClip (mode : MasterClip) (y : F32) : F32 :=
  match mode with
  | .off => y
  | .soft => softClip y
  | .hard => hardClip y

/-- The three band gains and the master gain (R290): an `M_GAIN` stored as -0.0 (R334) makes -0.0 of silence, beside R354
(assumption 25). -/
def masterBands (p : Nat → F32) (lo mid hi : F32) : F32 :=
  (((lo.mul (dbGain (p Param.M_LOW_DB))).add (mid.mul (dbGain (p Param.M_MID_DB)))).add
    (hi.mul (dbGain (p Param.M_HIGH_DB)))).mul (p Param.M_GAIN)

/-- One channel of `Master.process` (R290), with its two memories. -/
def masterChannel (p : Nat → F32) (sr x : F32) (lpLo lpHi : OnePole) : F32 × OnePole × OnePole :=
  let lo := LP.step lpLo (lpCoef Config.eqXloHz sr) x
  let l3 := LP.step lpHi (lpCoef Config.eqXhiHz sr) x
  let hi := x.sub l3.1
  let mid := (x.sub lo.1).sub hi
  (clamp2 (masterClip (selMasterClip (p Param.M_CLIP_MODE)) (masterBands p lo.1 mid hi)), lo.2, l3.2)

/-- `Master.process` on both channels, left first (R290, R350). -/
def Master.process (p : Nat → F32) (sr : F32) (b : LR F32) (ms : Master) : LR F32 × Master :=
  let l := masterChannel p sr b.l ms.lpLo.l ms.lpHi.l
  let r := masterChannel p sr b.r ms.lpLo.r ms.lpHi.r
  (⟨l.1, r.1⟩, ⟨⟨l.2.1, r.2.1⟩, ⟨l.2.2, r.2.2⟩⟩)

end Sys2Proof.Machine
end

