-- ==== Sys2Proof/Machine/KickVoice.lean ====
section
/-! DEFINITION. Machine/KickVoice.lean: the kick voice (42_kick.md). `p i` is the snapshot cell `P[i]` (R26), `sr` is
`G.sr`, `c` is `CFG`. -/

namespace Sys2Proof.Machine

/-- `Kick.trigger` (R191): the filter memories, `fbPrev` and `osPrev` are kept. -/
def Kick.trigger (c : Cfg) (p : Nat → F32) (v : F32) (k : Kick) : Kick :=
  { Kick.reseed c k with
    envAmp := k.envAmp.trigger v
    envPitch := k.envPitch.trigger F32.one
    envDrive := k.envDrive.trigger F32.one
    envTail := k.envTail.trigger F32.one
    envL := ⟨k.envL.j0.trigger, k.envL.j1.trigger⟩
    phBody := ⟨F32.zero⟩
    phTail := ⟨F32.zero⟩
    phL := ⟨⟨wrap2pi (Config.twoPi.mul (p Param.L1_PHASE))⟩, ⟨wrap2pi (Config.twoPi.mul (p Param.L2_PHASE))⟩⟩
    lfo := ⟨F32.zero⟩
    active := true }

/-- What the LFO modulates (R193). -/
structure Mods where
  pitchMul : F32
  driveMul : F32
  cutMul : F32
  phMod : F32
deriving DecidableEq, Repr

/-- The router (R193): `m` reaches one target, the others stay neutral. -/
def route (tgt : LfoTarget) (m : F32) : Mods where
  pitchMul := if tgt = .pitch then EXP2 m else F32.one
  driveMul := if tgt = .drive then F32.one.add ((F32.dec 75 2).mul m) else F32.one
  cutMul := if tgt = .cutoff then EXP2 (F32.two.mul m) else F32.one
  phMod := if tgt = .phase then Config.pi.mul m else F32.zero

/-- LFO and router (R193). -/
def Kick.modulate (p : Nat → F32) (sr : F32) (k : Kick) : Mods × Kick :=
  let r := LFO.next k.lfo (selLfoWave (p Param.LFO_WAVE)) (p Param.LFO_RATE_HZ) (p Param.LFO_DUTY) sr
  (route (selLfoTarget (p Param.LFO_TARGET)) (r.1.mul (p Param.LFO_DEPTH)), { k with lfo := r.2 })

/-- The six envelope outputs of a sample (R194). -/
structure KickEnvs where
  a : F32
  pe : F32
  de : F32
  te : F32
  le1 : F32
  le2 : F32
deriving DecidableEq, Repr

/-- Envelopes (R194): one `next` each. -/
def Kick.envelopes (p : Nat → F32) (k : Kick) : KickEnvs × Kick :=
  let a := k.envAmp.next (p Param.K_AMP_DECAY)
  let pe := k.envPitch.next (p Param.K_PITCH_DECAY)
  let de := k.envDrive.next (p Param.K_DRIVE_DECAY)
  let te := k.envTail.next (p Param.K_TAIL_DECAY)
  let l1 := k.envL.j0.next (p Param.L1_ATTACK) (p Param.L1_DECAY)
  let l2 := k.envL.j1.next (p Param.L2_ATTACK) (p Param.L2_DECAY)
  (⟨a.1, pe.1, de.1, te.1, l1.1, l2.1⟩,
    { k with envAmp := a.2, envPitch := pe.2, envDrive := de.2, envTail := te.2, envL := ⟨l1.2, l2.2⟩ })

/-- Body (R195): the sample is taken before the phase advances. -/
def Kick.body (p : Nat → F32) (sr a pe pitchMul : F32) (k : Kick) : F32 × Kick :=
  let f := ((p Param.K_BASE_FREQ).add (((p Param.K_ATTACK_FREQ).sub (p Param.K_BASE_FREQ)).mul pe)).mul pitchMul
  ((SIN k.phBody.phase).mul a, { k with phBody := ⟨adv k.phBody.phase f sr⟩ })

/-- Tail (R196). -/
def Kick.tail (p : Nat → F32) (sr te : F32) (k : Kick) : F32 × Kick :=
  (((tri k.phTail.phase).mul te).mul (p Param.K_TAIL_MIX),
    { k with phTail := ⟨adv k.phTail.phase ((p Param.K_BASE_FREQ).mul (p Param.K_TAIL_RATIO)) sr⟩ })

/-- Click (R197). -/
def Kick.click (c : Cfg) (de : F32) (k : Kick) : F32 × Kick :=
  let w := white c k.rng
  (w.1.mul de, { k with rng := w.2 })

/-- One layer (R198): waveform at the modulated phase, internal drive, envelope, level. -/
def layerOut (w drive le level : F32) : F32 :=
  ((softClip (w.mul (F32.one.add drive))).mul le).mul level

/-- Layer 1 (R198). -/
def Kick.layer1 (c : Cfg) (p : Nat → F32) (sr le phMod : F32) (k : Kick) : F32 × Kick :=
  let w := wave c (selOscType (p Param.L1_WAVE)) (k.phL.j0.phase.add phMod) k.rng
  (layerOut w.1 (p Param.L1_DRIVE) le (p Param.L1_LEVEL),
    { k with rng := w.2, phL := { k.phL with j0 := ⟨adv k.phL.j0.phase (p Param.L1_FREQ) sr⟩ } })

/-- Layer 2 (R198). -/
def Kick.layer2 (c : Cfg) (p : Nat → F32) (sr le phMod : F32) (k : Kick) : F32 × Kick :=
  let w := wave c (selOscType (p Param.L2_WAVE)) (k.phL.j1.phase.add phMod) k.rng
  (layerOut w.1 (p Param.L2_DRIVE) le (p Param.L2_LEVEL),
    { k with rng := w.2, phL := { k.phL with j1 := ⟨adv k.phL.j1.phase (p Param.L2_FREQ) sr⟩ } })

/-- Sum and pre-high-pass (R199). -/
def Kick.composite (p : Nat → F32) (sr body tail click lay1 lay2 : F32) (k : Kick) : F32 × Kick :=
  let r := HP.step k.preHp (lpCoef (p Param.K_PRE_HP_HZ) sr) ((((body.add tail).add click).add lay1).add lay2)
  (r.1, { k with preHp := r.2 })

/-- Sub path (R200). -/
def Kick.sub (p : Nat → F32) (sr x : F32) (k : Kick) : F32 × Kick :=
  let r := LP.step k.subLp (lpCoef (p Param.K_SUB_LP_HZ) sr) x
  (r.1.mul (p Param.K_AMP), { k with subLp := r.2 })

/-- Drive and feedback (R201). -/
def Kick.driven (p : Nat → F32) (x de driveMul : F32) (k : Kick) : F32 :=
  (x.mul ((F32.one.add (de.mul (p Param.K_DRIVE_AMOUNT))).mul driveMul)).add ((p Param.K_FEEDBACK).mul k.fbPrev)

/-- Asymmetric gain shaping (R202); a NaN takes the second branch. -/
def asymmetry (as u : F32) : F32 :=
  if u.ge F32.zero then u.mul (F32.one.add as) else u.mul (F32.one.sub as)

/-- The clip mode of a chain (R203): `v` is the chain's selector, `master` the voice's. -/
def chainMode (v master : F32) : ClipMode := selClip v (selClipMode master) .tanh .hard .foldback

/-- One distortion chain (R202) at rate `srx`. -/
def chain (p : Nat → F32) (asym clipSel lpHz : Nat) (u srx : F32) (lp : OnePole) : F32 × OnePole :=
  LP.step lp (lpCoef (p lpHz) srx)
    (clip (chainMode (p clipSel) (p Param.K_CLIP_MODE)) (asymmetry (p asym) u) (p Param.K_FOLD_THRESHOLD))

/-- Both chains (R204), A then B. -/
def chains (p : Nat → F32) (srx u : F32) (lps : Two OnePole) : F32 × Two OnePole :=
  let a := chain p Param.KA_ASYM Param.KA_CLIP Param.KA_LP_HZ u srx lps.j0
  let b := chain p Param.KB_ASYM Param.KB_CLIP Param.KB_LP_HZ u srx lps.j1
  ((a.1.mul (p Param.KA_MIX)).add (b.1.mul (p Param.KB_MIX)), ⟨a.2, b.2⟩)

/-- Oversampling and the feedback memory (R205). -/
def Kick.distort (p : Nat → F32) (sr d : F32) (k : Kick) : F32 × Kick :=
  let r := sel2 (p Param.K_OVERSAMPLE) (chains p sr d k.chLp)
    (Oversample2x k.osPrev d (chains p (F32.two.mul sr)) k.chLp)
  (r.1, { k with chLp := r.2, osPrev := d, fbPrev := r.1 })

/-- The crunch crossfade (R206). -/
def crunch (p : Nat → F32) (s : F32) : F32 :=
  (s.mul (F32.one.sub (p Param.K_CRUNCH))).add ((foldback s (p Param.K_FOLD_THRESHOLD)).mul (p Param.K_CRUNCH))

/-- Tok and crunch (R206). -/
def Kick.tokCrunch (p : Nat → F32) (sr x y : F32) (k : Kick) : F32 × Kick :=
  let r := HP.step k.tokHp (lpCoef (p Param.K_TOK_HZ) sr) x
  (crunch p (y.add (r.1.mul (p Param.K_TOK_AMOUNT))), { k with tokHp := r.2 })

/-- Post filters (R207). -/
def Kick.post (p : Nat → F32) (sr cutMul s : F32) (k : Kick) : F32 × Kick :=
  let l := LP.step k.postLp (lpCoef ((p Param.K_POST_LP_HZ).mul cutMul) sr) s
  let h := HP.step k.postHp (lpCoef (p Param.K_POST_HP_HZ) sr) l.1
  (h.1, { k with postLp := l.2, postHp := h.2 })

/-- Final mix (R208). -/
def kickMix (p : Nat → F32) (sub s : F32) : F32 :=
  (softClip ((sub.mul (p Param.K_SUB_MIX)).add (s.mul (F32.one.sub (p Param.K_SUB_MIX))))).mul (p Param.K_POST_GAIN)

/-- The body of `Kick.process` for an active voice, in the order of R210. -/
def Kick.sample (c : Cfg) (p : Nat → F32) (sr : F32) (k : Kick) : F32 × Kick :=
  let m := k.modulate p sr
  let e := m.2.envelopes p
  let body := e.2.body p sr e.1.a e.1.pe m.1.pitchMul
  let tail := body.2.tail p sr e.1.te
  let click := tail.2.click c e.1.de
  let lay1 := click.2.layer1 c p sr e.1.le1 m.1.phMod
  let lay2 := lay1.2.layer2 c p sr e.1.le2 m.1.phMod
  let x := lay2.2.composite p sr body.1 tail.1 click.1 lay1.1 lay2.1
  let sub := x.2.sub p sr x.1
  let y := sub.2.distort p sr (sub.2.driven p x.1 e.1.de m.1.driveMul)
  let tok := y.2.tokCrunch p sr x.1 y.1
  let s := tok.2.post p sr m.1.cutMul tok.1
  (kickMix p sub.1 s.1, { s.2 with active := s.2.governed })

/-- `Kick.process` (R210): an inactive voice gives 0 and touches nothing (R192). -/
def Kick.process (c : Cfg) (p : Nat → F32) (sr : F32) (k : Kick) : F32 × Kick :=
  if k.active then k.sample c p sr else (F32.zero, k)

end Sys2Proof.Machine
end

