-- ==== Sys2Proof/Machine/SnareHat.lean ====
section
/-! DEFINITION. Machine/SnareHat.lean: the snare and hat voices (43_snare_hat.md). -/

namespace Sys2Proof.Machine

/-- `Snare.trigger` (R231). -/
def Snare.trigger (v : F32) (sn : Snare) : Snare :=
  { sn with envAmp := sn.envAmp.trigger v, envTone := sn.envTone.trigger F32.one, phase := ⟨F32.zero⟩, active := true }

/-- The snare's blend of noise and tone (R232). -/
def snareMix (a nm n t sine : F32) : F32 :=
  a.mul ((nm.mul n).add (((F32.one.sub nm).mul t).mul sine))

/-- The body of `Snare.process` for an active voice (R232). -/
def Snare.sample (c : Cfg) (p : Nat → F32) (sr : F32) (sn : Snare) : F32 × Snare :=
  let a := sn.envAmp.next (p Param.S_AMP_DECAY)
  let t := sn.envTone.next (p Param.S_TONE_DECAY)
  let n := white c sn.rng
  let y := snareMix a.1 (p Param.S_NOISE_MIX) n.1 t.1 (SIN sn.phase.phase)
  (y.mul (p Param.S_LEVEL),
    { active := a.2.isActive, envAmp := a.2, envTone := t.2,
      phase := ⟨adv sn.phase.phase (p Param.S_TONE_FREQ) sr⟩, rng := n.2 })

/-- `Snare.process` (R232, R230). -/
def Snare.process (c : Cfg) (p : Nat → F32) (sr : F32) (sn : Snare) : F32 × Snare :=
  if sn.active then sn.sample c p sr else (F32.zero, sn)

/-- `Hat.trigger` (R236). -/
def Hat.trigger (v : F32) (ht : Hat) : Hat := { ht with envAmp := ht.envAmp.trigger v, active := true }

/-- The lazy coefficient cache (R237): recomputed when the cutoff differs from the one it was computed for. -/
def Hat.refresh (p : Nat → F32) (sr : F32) (ht : Hat) : Hat :=
  if (p Param.H_CUTOFF_HZ).fne ht.cutHz then
    { ht with cutHz := p Param.H_CUTOFF_HZ, coef := lpCoef (p Param.H_CUTOFF_HZ) sr }
  else ht

/-- The body of `Hat.process` for an active voice (R237). -/
def Hat.sample (c : Cfg) (p : Nat → F32) (sr : F32) (ht : Hat) : F32 × Hat :=
  let ht1 := ht.refresh p sr
  let a := ht1.envAmp.next (p Param.H_DECAY)
  let n := white c ht1.rng
  let h := HP.step ht1.hp ht1.coef n.1
  ((a.1.mul h.1).mul (p Param.H_LEVEL),
    { ht1 with envAmp := a.2, rng := n.2, hp := h.2, active := a.2.isActive })

/-- `Hat.process` (R237, R230). -/
def Hat.process (c : Cfg) (p : Nat → F32) (sr : F32) (ht : Hat) : F32 × Hat :=
  if ht.active then ht.sample c p sr else (F32.zero, ht)

end Sys2Proof.Machine
end

