-- ==== Sys2Proof/Machine/Ops.lean ====
section
/-! DEFINITION. Machine/Ops.lean: the named operations over the state that meanings and the engine share: responses,
setters, the queue, the reset columns, `OUT`. There is no exception entry and no return from one on this hardware
(R370, R374, R375), so there is no such operation. -/

namespace Sys2Proof.Machine

/-! ## Responses (R321) -/

/-- One response on a port. -/
def State.respond (s : State) (port : Port) (v : BitVec 32) : State := { s with resps := (port, v) :: s.resps }

/-- An ignored word: no state changes, `RESP = 0` (R17, R119, R322, R323). -/
def State.ignore (s : State) (port : Port) : State := s.respond port 0#32

/-- A CTRL word's effect, gated by `G.prepared` (R322), with its response. -/
def State.control (s : State) (f : State → State) (resp : BitVec 32) : State :=
  if s.g.prepared then (f s).respond .ctrl resp else s.ignore .ctrl

/-! ## Setters (R331 to R335, R341 to R343) -/

/-- The effect of `SETBPM` (R331). -/
def State.setBpm (s : State) (bpm : F32) : State :=
  if bpm.isNaN then s else { s with t := { s.t with bpm := clampBpm bpm } }

/-- The effect of `SETPLAYING` (R335). -/
def State.setPlaying (s : State) (on : Bool) : State := { s with t := { s.t with playing := on } }

/-- `PAT[lane][step] <- e` (R24). -/
def State.putPat (s : State) (lane step : Nat) (e : PatStep) : State :=
  { s with pat := Store.put PatStep.clear s.pat (patIndex lane step) e }

/-- The effect of `SETSTEP` (R332). -/
def State.setStep (s : State) (lane step : BitVec 8) (on : Bool) (velocity : F32) : State :=
  if stepExists lane step && !velocity.isNaN then
    s.putPat lane.toNat step.toNat ⟨on, clampVelocity velocity⟩
  else s

/-- The effect of `CLEARPATTERN` (R333): all 48 elements `{false, 0.0}`. -/
def State.clearPattern (s : State) : State := { s with pat := [] }

/-- The effect of `SETPARAM` (R334). -/
def State.setParam (s : State) (index : BitVec 8) (value : F32) : State :=
  if decide (index.toNat < s.cfg.nparam) && !value.isNaN then
    { s with
      pt := Store.put (ptReset s.cfg index.toNat) s.pt index.toNat (clampParam s.cfg index.toNat value) }
  else s

/-- The effect of `CMD_TOGGLESTEP` (R341): `on` alone, the velocity kept. -/
def State.toggleStep (s : State) (lane step : BitVec 8) (on : Bool) : State :=
  if stepExists lane step then
    s.putPat lane.toNat step.toNat ⟨on, (s.patAt lane.toNat step.toNat).velocity⟩
  else s

/-! ## The command queue (R336) -/

/-- `PUSH` (R336, R322): appended at the tail with `RESP = 1`, or dropped with `RESP = 0`. -/
def State.push (s : State) (w : W64) : State :=
  if s.g.prepared && decide (s.q.length ≠ s.cfg.cmdqDepth) then { s with q := s.q ++ [w] }.respond .cmd 1#32
  else s.ignore .cmd

/-! ## PREPARE and RESET (R400, R401) -/

/-- Voices, effects and master at their reset columns (R400, R401). -/
def State.resetSound (s : State) : State :=
  { s with
    k := Kick.reset s.cfg
    sn := Snare.reset s.cfg
    ht := Hat.reset s.cfg
    fx := FX.reset
    rv := Reverb.reset
    ms := Master.reset }

/-- The effect of `PREPARE` with an accepted rate, no render in flight (R400). -/
def State.prepare (s : State) (sr : F32) (maxBlk : BitVec 24) : State :=
  { s.resetSound with
    g := ⟨true, sr, maxBlk.setWidth 32, none⟩
    pat := []
    pt := []
    p := []
    q := []
    t := Transport.prepared }

/-- The effect of `RESET` (R401): the position, not the tempo or the run state. -/
def State.resetPosition (s : State) : State :=
  { s.resetSound with
    t := { s.t with stepIndex := 0#4, currentFrame := 0#64, nextStepFrame := F64.zero } }

/-! ## Render (R345 to R353) -/

/-- Acceptance of a `PROCESS` in a prepared block (R345): the engine starts to drain, `OUT` is a new buffer. -/
def State.accept (s : State) (numFrames : BitVec 32) (numChannels : BitVec 8) : State :=
  { s with
    out := ⟨0, []⟩
    g := { s.g with render := some ⟨.drain, s.cfg.snapOrder, 0#32, frameCount numFrames, numChannels⟩ } }

/-- `nf·nc` elements of `+0.0` and nothing else (R348). -/
def State.writeZeros (s : State) (numFrames : BitVec 32) (numChannels : BitVec 8) : State :=
  { s with out := ⟨(frameCount numFrames).toNat * numChannels.toNat, []⟩ }

/-- Completion (R353): not busy, `RESP = 0`. -/
def State.complete (s : State) : State := { s with g := { s.g with render := none } }.respond .render 0#32

/-- `OUT[i] <- v` (R72). -/
def OutBuf.write (o : OutBuf) (i : Nat) (v : F32) : OutBuf :=
  ⟨max o.len (i + 1), Store.put F32.zero o.cells i v⟩

/-- The elements of one frame written from index `i` up (R352). -/
def OutBuf.writeAll (o : OutBuf) (i : Nat) : List F32 → OutBuf
  | [] => o
  | v :: vs => (o.write i v).writeAll (i + 1) vs

/-- The elements of one frame for `nc` channels (R352). -/
def frameElems (nc : Nat) (o : LR F32) : List F32 :=
  if nc = 0 then []
  else if nc = 1 then [F32.half.mul (o.l.add o.r)]
  else o.l :: o.r :: List.replicate (nc - 2) (F32.half.mul (o.l.add o.r))

/-- The little-endian byte `j` of a host's image of `OUT`, four bytes an element (R76). -/
def OutBuf.byteAt? (o : OutBuf) (j : Nat) : Option Byte :=
  (o.at? (j / 4)).map (fun v => v.bits.extractLsb' (8 * (j % 4)) 8)

end Sys2Proof.Machine
end

