-- ==== Sys2Proof/Machine/Command.lean ====
section
/-! DEFINITION. Machine/Command.lean: the meanings of the queued commands, when applied by a drain step (R340 to R343).
How a command word gets into the queue is `PUSH` (R336), which decodes nothing (assumption 16). -/

namespace Sys2Proof.Machine

/-- `CMD_TOGGLESTEP` when applied (R341). -/
def execCmdToggleStep (lane step : BitVec 8) (on : Bool) (s : State) : Host.Outcome State Fault Refusal :=
  .next (s.toggleStep lane step on)

/-- `CMD_SETBPM` when applied (R342): as `SETBPM`. -/
def execCmdSetBpm (bpm : F32) (s : State) : Host.Outcome State Fault Refusal := .next (s.setBpm bpm)

/-- `CMD_SETPLAYING` when applied (R343). -/
def execCmdSetPlaying (on : Bool) (s : State) : Host.Outcome State Fault Refusal := .next (s.setPlaying on)

end Sys2Proof.Machine
end

