-- ==== Sys2Proof/Machine/Control.lean ====
section
/-! DEFINITION. Machine/Control.lean: the meanings of the CTRL port's operations (R331 to R339, R400, R401): one
micro-step each (R80). -/

namespace Sys2Proof.Machine

/-- `PREPARE` (R400): an unaccepted rate is ignored (R404), also while a render is in flight; an accepted one does not
act while a render is in flight (R402): the step then keeps the word, and nothing changes. -/
def execPrepare (sampleRate : F32) (maxBlockSize : BitVec 24) (s : State) : Host.Outcome State Fault Refusal :=
  if rateAccepted sampleRate then
    if s.g.busy then .next s else .next ((s.prepare sampleRate maxBlockSize).respond .ctrl 0#32)
  else .next (s.ignore .ctrl)

/-- `RESET` (R401): ignored before `PREPARE` (R322); does not act while a render is in flight (R402). -/
def execReset (s : State) : Host.Outcome State Fault Refusal :=
  if s.g.busy then .next s else .next (s.control State.resetPosition 0#32)

/-- `SETBPM` (R331, R322). -/
def execSetBpm (bpm : F32) (s : State) : Host.Outcome State Fault Refusal :=
  .next (s.control (fun s => s.setBpm bpm) 0#32)

/-- `SETPLAYING` (R335, R322). -/
def execSetPlaying (on : Bool) (s : State) : Host.Outcome State Fault Refusal :=
  .next (s.control (fun s => s.setPlaying on) 0#32)

/-- `SETSTEP` (R332, R322). -/
def execSetStep (lane step : BitVec 8) (on : Bool) (velocity : F32) (s : State) : Host.Outcome State Fault Refusal :=
  .next (s.control (fun s => s.setStep lane step on velocity) 0#32)

/-- `CLEARPATTERN` (R333, R322). -/
def execClearPattern (s : State) : Host.Outcome State Fault Refusal :=
  .next (s.control State.clearPattern 0#32)

/-- `SETPARAM` (R334, R322). -/
def execSetParam (index : BitVec 8) (value : F32) (s : State) : Host.Outcome State Fault Refusal :=
  .next (s.control (fun s => s.setParam index value) 0#32)

/-- `GETSTEPINDEX` (R337, R322). -/
def execGetStepIndex (s : State) : Host.Outcome State Fault Refusal :=
  .next (s.control id (s.t.stepIndex.setWidth 32))

/-- `GETBPM` (R338, R322). -/
def execGetBpm (s : State) : Host.Outcome State Fault Refusal :=
  .next (s.control id s.t.bpm.bits)

/-- `ISPLAYING` (R339, R322). -/
def execIsPlaying (s : State) : Host.Outcome State Fault Refusal :=
  .next (s.control id (if s.t.playing then 1#32 else 0#32))

end Sys2Proof.Machine
end

