-- ==== Sys2Proof/Machine/RenderOp.lean ====
section
/-! DEFINITION. Machine/RenderOp.lean: the meaning of `PROCESS` as an operation word: its acceptance (R80 (c), R345);
the drain, snapshot and tick micro-steps that follow are the engine's (Machine/Engine.lean; assumption 18). -/

namespace Sys2Proof.Machine

/-- `PROCESS` (R345): before `PREPARE` it writes zeros and completes at once (R348, R353); while a render is in flight
the word is not taken (R320), and nothing changes. -/
def execProcess (numFrames : BitVec 32) (numChannels : BitVec 8) (s : State) : Host.Outcome State Fault Refusal :=
  if s.g.busy then .next s
  else if s.g.prepared then .next (s.accept numFrames numChannels)
  else .next ((s.writeZeros numFrames numChannels).respond .render 0#32)

end Sys2Proof.Machine
end

