-- ==== Sys2Proof/Machine/Dispatch.lean ====
section
/-! DEFINITION. Machine/Dispatch.lean: each operation to its meaning, one arm per constructor. -/

namespace Sys2Proof.Machine

/-- The meaning of an operation. -/
def exec (i : Instr) (s : State) : Host.Outcome State Fault Refusal :=
  match i with
  | .prepare sampleRate maxBlockSize => Sys2Proof.Machine.execPrepare sampleRate maxBlockSize s
  | .reset => Sys2Proof.Machine.execReset s
  | .setBpm bpm => Sys2Proof.Machine.execSetBpm bpm s
  | .setPlaying on => Sys2Proof.Machine.execSetPlaying on s
  | .setStep lane step on velocity => Sys2Proof.Machine.execSetStep lane step on velocity s
  | .clearPattern => Sys2Proof.Machine.execClearPattern s
  | .setParam index value => Sys2Proof.Machine.execSetParam index value s
  | .getStepIndex => Sys2Proof.Machine.execGetStepIndex s
  | .getBpm => Sys2Proof.Machine.execGetBpm s
  | .isPlaying => Sys2Proof.Machine.execIsPlaying s
  | .cmdToggleStep lane step on => Sys2Proof.Machine.execCmdToggleStep lane step on s
  | .cmdSetBpm bpm => Sys2Proof.Machine.execCmdSetBpm bpm s
  | .cmdSetPlaying on => Sys2Proof.Machine.execCmdSetPlaying on s
  | .process numFrames numChannels => Sys2Proof.Machine.execProcess numFrames numChannels s

end Sys2Proof.Machine
end

