-- ==== Sys2Proof/Machine/Tick.lean ====
section
/-! DEFINITION. Machine/Tick.lean: the transport (46_transport.md) and one sample of the whole engine (R350). -/

namespace Sys2Proof.Machine

/-- `framesPerStep` (R303): binary64, three roundings. -/
def framesPerStep (sr bpm : F32) : F64 :=
  (((F64.ofF32 sr).mul (F64.ofNat 60)).div (F64.ofF32 bpm)).div (F64.ofNat 4)

/-- A step fires: `F64(currentFrame) ≥ nextStepFrame` (R301). -/
def Transport.due (t : Transport) : Bool := (F64.ofNat t.currentFrame.toNat).ge t.nextStepFrame

/-- The step index and the next firing after a firing (R302, R303). -/
def Transport.fire (sr : F32) (t : Transport) : Transport :=
  { t with stepIndex := t.stepIndex + 1#4, nextStepFrame := t.nextStepFrame.add (framesPerStep sr t.bpm) }

/-- One more frame counted (R304). -/
def Transport.count (t : Transport) : Transport := { t with currentFrame := t.currentFrame + 1#64 }

/-- `triggerStep` (R305): the kick's trigger also restarts the FX chain's transient envelope (R262). -/
def triggerStep (st : Nat) (s : State) : State :=
  { s with
    k := if (s.patAt 0 st).on then s.k.trigger s.cfg s.par (s.patAt 0 st).velocity else s.k
    fx := if (s.patAt 0 st).on then s.fx.trigger else s.fx
    sn := if (s.patAt 1 st).on then s.sn.trigger (s.patAt 1 st).velocity else s.sn
    ht := if (s.patAt 2 st).on then s.ht.trigger (s.patAt 2 st).velocity else s.ht }

/-- `TransportStep` (R301), less the value it returns, which is `s.t.playing`. -/
def transportStep (s : State) : State :=
  if s.t.playing && s.t.due then
    { triggerStep s.t.stepIndex.toNat s with t := s.t.fire s.g.sr }
  else s

/-- The transport record after a tick (R301 to R304). -/
def Transport.tick (sr : F32) (t : Transport) : Transport :=
  if t.playing then (if t.due then t.fire sr else t).count else t

/-- The voices, effects and master of one tick, from the state `TransportStep` leaves (R350). -/
def soundStep (s : State) : LR F32 × State :=
  let k := s.k.process s.cfg s.par s.g.sr
  let sn := s.sn.process s.cfg s.par s.g.sr
  let ht := s.ht.process s.cfg s.par s.g.sr
  let fx := s.fx.process s.cfg s.par s.g.sr k.1
  let rv := s.rv.process s.cfg s.par k.1
  let ms := s.ms.process s.par s.g.sr (mix s.par fx.1 sn.1 ht.1 rv.1)
  (ms.1, { s with k := k.2, sn := sn.2, ht := ht.2, fx := fx.2, rv := rv.2, ms := ms.2 })

/-- `Tick` (R350): the frame is counted when `playing` was read true. -/
def tick (s : State) : LR F32 × State :=
  let r := soundStep (transportStep s)
  (r.1, if s.t.playing then { r.2 with t := r.2.t.count } else r.2)

end Sys2Proof.Machine
end

