-- ==== Sys2Proof/Machine/Engine.lean ====
section
/-! DEFINITION. Machine/Engine.lean: the micro-steps (R80): the engine's drain, snapshot and tick steps, and the taking
of a word at a port. -/

namespace Sys2Proof.Machine

/-- `G.render` replaced. -/
def State.withRender (s : State) (r : Option Render) : State := { s with g := { s.g with render := r } }

/-- One drain step (R80 (d), R346): leave the loop if `Q` is empty, else remove its head and apply it; a word that is
no command is discarded (R344). -/
def drainStep (r : Render) (s : State) : Host.Outcome State Fault Refusal :=
  match s.q with
  | [] => .next (s.withRender (some { r with phase := .snap }))
  | w :: rest =>
    match decode w with
    | .ok i => if i.port = .cmd then exec i { s with q := rest } else .next { s with q := rest }
    | .error _ => .next { s with q := rest }

/-- The render after its snapshot: the ticks, or completion when there are none (R349, R353). -/
def afterSnapshot (r : Render) (s : State) : State :=
  if r.numFrames = 0#32 then s.complete else s.withRender (some { r with phase := .tick, snapLeft := [] })

/-- `P[i] <- PT[i]` (R347). -/
def State.copyCell (s : State) (i : Nat) : State :=
  { s with p := Store.put (ptReset s.cfg i) s.p i (s.ptAt i) }

/-- One snapshot step (R80 (e), R347). -/
def snapStep (r : Render) (s : State) : State :=
  match r.snapLeft with
  | [] => afterSnapshot r s
  | [i] => afterSnapshot r (s.copyCell i)
  | i :: rest => (s.copyCell i).withRender (some { r with snapLeft := rest })

/-- The frame's elements written at `n·nc` up (R352). -/
def State.writeFrame (s : State) (n nc : Nat) (o : LR F32) : State :=
  { s with out := s.out.writeAll (n * nc) (frameElems nc o) }

/-- One tick step (R80 (f), R345): `Tick`, the frame's elements, and completion after the last frame (R353). -/
def tickStep (r : Render) (s : State) : State :=
  let s' := (tick s).2.writeFrame r.n.toNat r.numChannels.toNat (tick s).1
  if r.n.toNat + 1 < r.numFrames.toNat then s'.withRender (some { r with n := r.n + 1#32 }) else s'.complete

/-- The engine's next micro-step, if a render is in flight (R345). -/
def engineStep (s : State) : Host.Outcome State Fault Refusal :=
  match s.g.render with
  | none => .next s
  | some r =>
    match r.phase with
    | .drain => drainStep r s
    | .snap => .next (snapStep r s)
    | .tick => .next (tickStep r s)

/-! ## Words at the ports (R101, R320) -/

/-- The operation a port takes from a word: none if the opcode is reserved or belongs to another port (R119, R323).
The CMD port decodes nothing (R336). -/
def portInstr (x : Presented) : Option Instr :=
  match decode x.word with
  | .ok i => if i.port = x.port then some i else none
  | .error _ => none

/-- A word taken at its port, from a state whose inbox no longer holds it. -/
def present (x : Presented) (s : State) : Host.Outcome State Fault Refusal :=
  match x.port with
  | .cmd => .next (s.push x.word)
  | _ =>
    match portInstr x with
    | some i => exec i s
    | none => .next (s.ignore x.port)

/-- The operations held while a render is in flight (R402): an ignored `PREPARE` is not (R400, assumption 12). -/
def holds (i : Instr) : Bool :=
  match i with
  | .prepare sr _ => rateAccepted sr
  | .reset => true
  | _ => false

/-- A word that must wait while a render is in flight: any word on RENDER (R320), a held operation on CTRL (R402). -/
def mustWait (x : Presented) : Bool :=
  match x.port with
  | .render => true
  | .cmd => false
  | .ctrl =>
    match portInstr x with
    | some i => holds i
    | none => false

/-- The word's arrival after one more engine micro-step. -/
def Arrival.sooner : Arrival → Arrival
  | .whenIdle => .whenIdle
  | .after n => .after (n - 1)

/-- The head of the inbox acts now: no render is in flight, or the word has arrived and need not wait. -/
def takesNow (x : Presented) (s : State) : Bool :=
  !s.g.busy || (decide (x.arrival = .after 0) && !mustWait x)

/-! ## Placing a word where the next step takes it -/

/-- The arrival that keeps the head of the inbox back for one engine micro-step. -/
def Arrival.later : Arrival → Arrival
  | .whenIdle => .whenIdle
  | .after n => .after (n + 1)

/-- The inbox with its head kept back for one engine micro-step. -/
def holdBack : List Presented → List Presented
  | [] => []
  | x :: xs => { x with arrival := x.arrival.later } :: xs

/-- A command word `w` at the head of the queue of a prepared block whose engine drains (assumption 17). -/
def placeCommand (s : State) (w : W64) : State :=
  { s with
    inbox := holdBack s.inbox
    q := w :: s.q
    g := { s.g with prepared := true, render := some ⟨.drain, s.cfg.snapOrder, 0#32, 0#32, 0#8⟩ } }

/-- A word `w` at the head of the inbox, on `port`, with no render in flight if the word would have to wait for it. -/
def placeWord (s : State) (port : Port) (w : W64) : State :=
  { s with
    inbox := ⟨port, w, .after 0⟩ :: s.inbox
    g := if mustWait ⟨port, w, .after 0⟩ then { s.g with render := none } else s.g }

/-- The word of `nbits` bits `w`, placed by the port its operation belongs to; a word that is no operation goes to
CTRL, which ignores it. -/
def placeTableWord (s : State) (nbits w : Nat) : State :=
  match decodeTableWord nbits w with
  | some i =>
    match i.port with
    | .cmd => placeCommand s (BitVec.ofNat 64 (w % 2 ^ nbits))
    | port => placeWord s port (BitVec.ofNat 64 (w % 2 ^ nbits))
  | none => placeWord s .ctrl (BitVec.ofNat 64 (w % 2 ^ nbits))

end Sys2Proof.Machine
end

