-- ==== Sys2Proof/Machine/Step.lean ====
section
/-! DEFINITION. Machine/Step.lean: one micro-step of the whole machine (R80), and where a step fetches its next word. -/

namespace Sys2Proof.Machine

/-- One micro-step: the head of the inbox if it acts now, else the engine's; an idle block with an empty inbox stays as
it is (R385). -/
def step (s : State) : Host.Outcome State Fault Refusal :=
  match s.inbox with
  | [] => engineStep s
  | x :: rest =>
    if takesNow x s then present x { s with inbox := rest }
    else engineStep { s with inbox := { x with arrival := x.arrival.sooner } :: rest }

/-- `s` with the table's word `w` where the next step takes it (assumption 17). -/
def State.withFetchWord (s : State) (nbits w : Nat) : State := placeTableWord s nbits w

end Sys2Proof.Machine
end

