-- ==== Sys2Proof/Safety.lean ====
section
/-! DEFINITION. Safety.lean: what the machine keeps, in the terms the statements use: legal configurations (U10), the
canonical form of every space, and the ranges the spec gives each piece of state. -/

namespace Sys2Proof.Machine

/-- `lo ≤ x ≤ hi`; false of a NaN. -/
def F32.within (lo hi x : F32) : Bool := lo.le x && x.le hi

/-- `x` is in [0, 1]. -/
def F32.unit (x : F32) : Bool := F32.within F32.zero F32.one x

/-! ## Configurations (U10) -/

/-- All four satisfy `P`. -/
def fourAll {α : Type} (P : α → Bool) (x : Four α) : Bool := P x.j0 && P x.j1 && P x.j2 && P x.j3
/-- Both satisfy `P`. -/
def twoAll {α : Type} (P : α → Bool) (x : Two α) : Bool := P x.j0 && P x.j1
/-- Both channels satisfy `P`. -/
def lrAll {α : Type} (P : α → Bool) (x : LR α) : Bool := P x.l && P x.r

end Sys2Proof.Machine

namespace Sys2Proof

open Sys2Proof.Machine

/-- Every delay length is at least 1 (R49, U10). -/
def Cfg.lengthsLegal (c : Cfg) : Bool :=
  lrAll (fourAll (fun n => decide (1 ≤ n))) c.revCombLen && lrAll (twoAll (fun n => decide (1 ≤ n))) c.revApLen &&
    lrAll (fourAll (fun n => decide (1 ≤ n))) c.difLen

/-- Parameter `i` is a decay or attack coefficient (R40). -/
def isCoef (i : Nat) : Bool := decide (paramKind i = some .coef) || decide (paramKind i = some .acoef)

/-- The table has the `NPARAM` entries it is said to have, those of R40 among them; every `PT_RESET[i]` is inside its
range (U10), which `ptMax` keeps at or below `FEEDBACK_MAX` for the feedback (R10); `COEF_MAX` and `ATK_COEF_MAX` are in
[0, 1) and no coefficient's range reaches below 0 (R40). -/
def Cfg.tableLegal (c : Cfg) : Bool :=
  decide (c.ptRanges.length = c.nparam) && decide (c.ptResets.length = c.nparam) && decide (77 ≤ c.nparam) &&
    F32.zero.le c.coefMax && c.coefMax.lt F32.one && F32.zero.le c.atkCoefMax && c.atkCoefMax.lt F32.one &&
    (List.range 77).all (fun i => !isCoef i || F32.zero.le (ptMin c i)) &&
    (List.range c.nparam).all (fun i => F32.within (ptMin c i) (ptMax c i) (ptReset c i))

/-- The snare's and hat's seeds are not 0 (R48, U10). -/
def Cfg.seedsLegal (c : Cfg) : Bool := decide (c.snareRng0 ≠ 0#32) && decide (c.hatRng0 ≠ 0#32)

/-- The reference shifts of xorshift32 (R151). -/
def Cfg.shiftsReference (c : Cfg) : Bool := decide (c.xsA = 13) && decide (c.xsB = 17) && decide (c.xsC = 5)

/-- `SNAP_ORDER` lists every cell once (R85). -/
def Cfg.orderLegal (c : Cfg) : Prop := c.snapOrder.Perm (List.range c.nparam)

/-- A queue of at least one entry (U8). -/
def Cfg.depthLegal (c : Cfg) : Bool := decide (1 ≤ c.cmdqDepth)

end Sys2Proof

namespace Sys2Proof.Machine

/-! ## The parameter table as bit patterns (R40): `(min, max, reset)` of every row, in order -/

/-- Rows 0 to 19 of R40. -/
def tablePatternsA : List (BitVec 32 × BitVec 32 × BitVec 32) :=
  [(0x00000000#32, 0x3F7FFF58#32, 0x3F7FDF3B#32), (0x00000000#32, 0x3F7FFF58#32, 0x3F7EB852#32), (0x00000000#32, 0x3F7FFF58#32, 0x3F7D70A4#32),
   (0x00000000#32, 0x3F7FFF58#32, 0x3F7FEC57#32), (0x3F800000#32, 0x469C4000#32, 0x435C0000#32), (0x3F800000#32, 0x469C4000#32, 0x42480000#32),
   (0x3E800000#32, 0x41000000#32, 0x40000000#32), (0x00000000#32, 0x3F800000#32, 0x00000000#32), (0x00000000#32, 0x42200000#32, 0x00000000#32),
   (0x00000000#32, 0x3F000000#32, 0x00000000#32), (0x00000000#32, 0x3F800000#32, 0x00000000#32), (0x00000000#32, 0x40000000#32, 0x00000000#32),
   (0x3D4CCCCD#32, 0x40800000#32, 0x3F800000#32), (0x00000000#32, 0x447A0000#32, 0x41A00000#32), (0x41A00000#32, 0x447A0000#32, 0x42F00000#32),
   (0x00000000#32, 0x40000000#32, 0x3F800000#32), (0x00000000#32, 0x3F800000#32, 0x3F000000#32), (0x00000000#32, 0x40800000#32, 0x3F800000#32),
   (0x00000000#32, 0x40000000#32, 0x00000000#32), (0x41A00000#32, 0x469C4000#32, 0x44FA0000#32)]

/-- Rows 20 to 39 of R40. -/
def tablePatternsB : List (BitVec 32 × BitVec 32 × BitVec 32) :=
  [(0x00000000#32, 0x3F800000#32, 0x00000000#32), (0x41A00000#32, 0x469C4000#32, 0x469C4000#32), (0x00000000#32, 0x44FA0000#32, 0x00000000#32),
   (0xBF800000#32, 0x3F800000#32, 0x00000000#32), (0xBF800000#32, 0x40000000#32, 0xBF800000#32), (0x41A00000#32, 0x469C4000#32, 0x469C4000#32),
   (0x00000000#32, 0x3F800000#32, 0x3F800000#32), (0xBF800000#32, 0x3F800000#32, 0x00000000#32), (0xBF800000#32, 0x40000000#32, 0xBF800000#32),
   (0x41A00000#32, 0x469C4000#32, 0x469C4000#32), (0x00000000#32, 0x3F800000#32, 0x00000000#32), (0x00000000#32, 0x40400000#32, 0x00000000#32),
   (0x00000000#32, 0x3F7FDF3B#32, 0x00000000#32), (0x00000000#32, 0x3F7FFF58#32, 0x3F7FBE77#32), (0x3F800000#32, 0x469C4000#32, 0x42C80000#32),
   (0x00000000#32, 0x3F800000#32, 0x00000000#32), (0x00000000#32, 0x42200000#32, 0x00000000#32), (0x00000000#32, 0x3F800000#32, 0x00000000#32),
   (0x00000000#32, 0x40400000#32, 0x00000000#32), (0x00000000#32, 0x3F7FDF3B#32, 0x00000000#32)]

/-- Rows 40 to 59 of R40. -/
def tablePatternsC : List (BitVec 32 × BitVec 32 × BitVec 32) :=
  [(0x00000000#32, 0x3F7FFF58#32, 0x3F7FBE77#32), (0x3F800000#32, 0x469C4000#32, 0x43160000#32), (0x00000000#32, 0x3F800000#32, 0x00000000#32),
   (0x00000000#32, 0x42200000#32, 0x00000000#32), (0x00000000#32, 0x3F800000#32, 0x00000000#32), (0x00000000#32, 0x40000000#32, 0x00000000#32),
   (0x00000000#32, 0x42C80000#32, 0x40A00000#32), (0x00000000#32, 0x3F800000#32, 0x3F000000#32), (0x00000000#32, 0x40400000#32, 0x00000000#32),
   (0x00000000#32, 0x3F800000#32, 0x00000000#32), (0x00000000#32, 0x3F7FFF58#32, 0x3F7FBE77#32), (0x00000000#32, 0x3F7FFF58#32, 0x3F7EB852#32),
   (0x3F800000#32, 0x469C4000#32, 0x43340000#32), (0x00000000#32, 0x3F800000#32, 0x3F333333#32), (0x00000000#32, 0x40000000#32, 0x3F800000#32),
   (0x00000000#32, 0x3F7FFF58#32, 0x3F7EB852#32), (0x41A00000#32, 0x469C4000#32, 0x45DAC000#32), (0x00000000#32, 0x40000000#32, 0x3F800000#32),
   (0xC4FA0000#32, 0x44FA0000#32, 0x00000000#32), (0x00000000#32, 0x40000000#32, 0x3F800000#32)]

/-- Rows 60 to 76 of R40. -/
def tablePatternsD : List (BitVec 32 × BitVec 32 × BitVec 32) :=
  [(0x00000000#32, 0x3F800000#32, 0x00000000#32), (0x00000000#32, 0x41200000#32, 0x00000000#32), (0x00000000#32, 0x3F800000#32, 0x00000000#32),
   (0x00000000#32, 0x3F800000#32, 0x00000000#32), (0x00000000#32, 0x40800000#32, 0x00000000#32), (0x00000000#32, 0x3F7FDF3B#32, 0x3F666666#32),
   (0x00000000#32, 0x3F7FFF58#32, 0x3F7FBE77#32), (0x41A00000#32, 0x469C4000#32, 0x469C4000#32), (0x00000000#32, 0x3F800000#32, 0x00000000#32),
   (0x00000000#32, 0x3F800000#32, 0x3F000000#32), (0x00000000#32, 0x3F800000#32, 0x3F000000#32), (0x00000000#32, 0x3F800000#32, 0x00000000#32),
   (0xC1C00000#32, 0x41C00000#32, 0x00000000#32), (0xC1C00000#32, 0x41C00000#32, 0x00000000#32), (0xC1C00000#32, 0x41C00000#32, 0x00000000#32),
   (0x00000000#32, 0x40800000#32, 0x3F800000#32), (0x00000000#32, 0x40000000#32, 0x3F800000#32)]

/-- The 77 rows of R40. -/
def tablePatterns : List (BitVec 32 × BitVec 32 × BitVec 32) :=
  tablePatternsA ++ tablePatternsB ++ tablePatternsC ++ tablePatternsD

/-- What a configuration gives parameter `i`: `(min, max, reset)` as bit patterns. -/
def rowPattern (c : Cfg) (i : Nat) : BitVec 32 × BitVec 32 × BitVec 32 :=
  ((ptMin c i).bits, (ptMax c i).bits, (ptReset c i).bits)

/-! ## The canonical form of every space (assumption 15) -/

/-- A delay line's buffer is in canonical form. -/
def Delay.wf (d : Delay) : Bool := Store.wf (fun _ => F32.zero) d.buf

/-- A comb's buffer is in canonical form. -/
def Comb.wf (cb : Comb) : Bool := Delay.wf cb.line

/-- Every delay line of the FX chain. -/
def FX.wf (fx : FX) : Bool := lrAll (fourAll Delay.wf) fx.dif

/-- Every delay line of the reverb. -/
def Reverb.wf (rv : Reverb) : Bool := lrAll (fourAll Comb.wf) rv.comb && lrAll (twoAll Delay.wf) rv.ap

/-- Every space of the machine is in its one canonical form. -/
def Memory.wf (s : State) : Bool :=
  Store.wf (fun _ => PatStep.clear) s.pat && Store.wf (ptReset s.cfg) s.pt &&
    Store.wf (ptReset s.cfg) s.p && Store.wf (fun _ => F32.zero) s.out.cells && FX.wf s.fx && Reverb.wf s.rv

/-! ## Ranges -/

/-- The cursor and every listed element lie inside a line of `n` elements (R49). -/
def Delay.inside (n : Nat) (d : Delay) : Bool := decide (d.idx < n) && d.buf.all (fun e => decide (e.1 < n))

/-- Each of four against its length. -/
def fourZip {α β : Type} (P : α → β → Bool) (a : Four α) (b : Four β) : Bool :=
  P a.j0 b.j0 && P a.j1 b.j1 && P a.j2 b.j2 && P a.j3 b.j3

/-- Each of two against its length. -/
def twoZip {α β : Type} (P : α → β → Bool) (a : Two α) (b : Two β) : Bool := P a.j0 b.j0 && P a.j1 b.j1

/-- Every cursor is inside its line (R49, R73). -/
def CursorsInside (s : State) : Bool :=
  fourZip Delay.inside s.cfg.difLen.l s.fx.dif.l && fourZip Delay.inside s.cfg.difLen.r s.fx.dif.r &&
    fourZip (fun n cb => Delay.inside n cb.line) s.cfg.revCombLen.l s.rv.comb.l &&
    fourZip (fun n cb => Delay.inside n cb.line) s.cfg.revCombLen.r s.rv.comb.r &&
    twoZip Delay.inside s.cfg.revApLen.l s.rv.ap.l && twoZip Delay.inside s.cfg.revApLen.r s.rv.ap.r

/-- `40 ≤ T.bpm ≤ 240`, not a NaN (R29, R33). -/
def TempoLegal (s : State) : Bool := F32.within Config.bpmMin Config.bpmMax s.t.bpm

/-- A prepared block's sample rate is finite and greater than 0 (R21, R404). -/
def RateLegal (s : State) : Bool := !s.g.prepared || rateAccepted s.g.sr

/-- Every cell of `PT` and of `P` is inside its range, not a NaN (R25, R40). -/
def ParamsLegal (s : State) : Prop :=
  ∀ i, i < s.cfg.nparam →
    F32.within (ptMin s.cfg i) (ptMax s.cfg i) (s.ptAt i) = true ∧
      F32.within (ptMin s.cfg i) (ptMax s.cfg i) (s.par i) = true

/-- Every stored velocity is in [0, 1] (R24). -/
def VelocitiesLegal (s : State) : Prop :=
  ∀ lane step, lane < 3 → step < 16 → F32.unit (s.patAt lane step).velocity = true

/-- The queue holds at most `CMDQ_DEPTH` words (R27). -/
def QueueBounded (s : State) : Bool := decide (s.q.length ≤ s.cfg.cmdqDepth)

/-- What the engine holds while a render is in flight (R22, R345): the block is prepared; before the ticks no frame is
done and nothing is written; in a tick a frame is left, and `n` frames are written. -/
def Render.legal (s : State) (r : Render) : Bool :=
  s.g.prepared && decide (r.numFrames.toNat < 2 ^ 31) &&
    match r.phase with
    | .drain => decide (r.n = 0#32) && decide (s.out.len = 0) && decide (r.snapLeft = s.cfg.snapOrder)
    | .snap => decide (r.n = 0#32) && decide (s.out.len = 0) && decide (r.snapLeft ≠ [])
    | .tick => decide (r.n.toNat < r.numFrames.toNat) && decide (s.out.len = r.n.toNat * r.numChannels.toNat)

/-- The render progress is one the rules reach (R22). -/
def RenderLegal (s : State) : Bool :=
  match s.g.render with
  | none => true
  | some r => Render.legal s r

/-- Every phase is in [0, TWO_PI) (R48). -/
def PhasesLegal (s : State) : Bool :=
  inTurn s.k.phBody.phase && inTurn s.k.phTail.phase && inTurn s.k.phL.j0.phase && inTurn s.k.phL.j1.phase &&
    inTurn s.k.lfo.phase && inTurn s.sn.phase.phase && inTurn s.fx.shOsc.phase

/-- No noise state is 0 (R48, R151). -/
def NoiseAlive (s : State) : Bool :=
  decide (s.k.rng.s ≠ 0#32) && decide (s.sn.rng.s ≠ 0#32) && decide (s.ht.rng.s ≠ 0#32)

/-- Every envelope value is in [0, 1] (R45, R138). -/
def EnvelopesLegal (s : State) : Bool :=
  F32.unit s.k.envAmp.value && F32.unit s.k.envPitch.value && F32.unit s.k.envDrive.value &&
    F32.unit s.k.envTail.value && F32.unit s.k.envL.j0.value && F32.unit s.k.envL.j1.value &&
    F32.unit s.sn.envAmp.value && F32.unit s.sn.envTone.value && F32.unit s.ht.envAmp.value &&
    F32.unit s.fx.trEnv.value

/-- `x` is finite and in [-2, 2] (R293). -/
def sampleSafe (x : F32) : Bool := F32.within F32.two.neg F32.two x

/-- Every element written to `OUT` is finite and in [-2, 2] (R293). -/
def OutputSafe (s : State) : Prop := ∀ i v, s.out.at? i = some v → sampleSafe v = true

/-- The hat's cached coefficient belongs to its cached cutoff, or the cutoff is a NaN (R52, R241). -/
def HatCacheSound (s : State) : Prop :=
  s.ht.cutHz.isNaN = true ∨ s.ht.coef = lpCoef s.ht.cutHz s.g.sr

/-! ## Silence (R354) -/

/-- A zero of either sign. -/
def OnePole.quiet (o : OnePole) : Bool := o.z.isZero
/-- All four memories are zeros. -/
def HilMem.quiet (h : HilMem) : Bool := h.x1.isZero && h.x2.isZero && h.y1.isZero && h.y2.isZero
/-- Every element is a zero. -/
def Delay.quiet (d : Delay) : Bool := d.buf.all (fun e => e.2.isZero)
/-- Every element and the damping memory are zeros. -/
def Comb.quiet (cb : Comb) : Bool := Delay.quiet cb.line && cb.filt.isZero
/-- Three zeros. -/
def bandsQuiet (b : Bands F32) : Bool := b.lo.isZero && b.mid.isZero && b.hi.isZero

/-- Every audio memory of the FX chain is zero; the carrier phase may stand anywhere in its turn and the transient
envelope anywhere in [0, 1] (assumption 25). -/
def FX.quiet (fx : FX) : Bool :=
  twoAll (fourAll HilMem.quiet) fx.hil && fx.hilD.isZero && inTurn fx.shOsc.phase && lrAll (fourAll Delay.quiet) fx.dif &&
    lrAll OnePole.quiet fx.ottLo && lrAll OnePole.quiet fx.ottHi && lrAll bandsQuiet fx.ottEnv &&
    F32.unit fx.trEnv.value && lrAll OnePole.quiet fx.tone

/-- Every float of the FX chain is zero, to the letter of R354. -/
def FX.zeroed (fx : FX) : Bool := FX.quiet fx && fx.shOsc.phase.isZero && fx.trEnv.value.isZero

/-- Every float of the reverb is zero. -/
def Reverb.quiet (rv : Reverb) : Bool := lrAll (fourAll Comb.quiet) rv.comb && lrAll (twoAll Delay.quiet) rv.ap

/-- Every float of the master is zero. -/
def Master.quiet (ms : Master) : Bool := lrAll OnePole.quiet ms.lpLo && lrAll OnePole.quiet ms.lpHi

/-- No voice active, stopped, every audio memory zero: the conditions of R354, and wider than they are by the carrier
phase and the transient envelope. -/
def Silent (s : State) : Bool :=
  !s.k.active && !s.sn.active && !s.ht.active && !s.t.playing && FX.quiet s.fx && Reverb.quiet s.rv && Master.quiet s.ms

/-- The conditions of R354 to the letter: no voice active, stopped, every float of `FX`, `RV` and `MS` zero. -/
def SilentExact (s : State) : Bool := Silent s && FX.zeroed s.fx

/-! ## What the statements about many steps say -/

/-- One drained word applied (R340, R344): a command's effect, or none. -/
def applyWord (s : State) (w : W64) : State :=
  match decode w with
  | .ok (.cmdToggleStep lane step on) => s.toggleStep lane step on
  | .ok (.cmdSetBpm bpm) => s.setBpm bpm
  | .ok (.cmdSetPlaying on) => s.setPlaying on
  | _ => s

/-- The head of the inbox is a CTRL word that `decode` reads as `i`, and it acts now. -/
def TakesControl (s : State) (i : Instr) : Prop :=
  ∃ x rest, s.inbox = x :: rest ∧ x.port = .ctrl ∧ decode x.word = .ok i ∧ takesNow x s = true

/-- The head of the inbox is a `PREPARE` with an accepted rate and acts now. -/
def TakesPrepare (s : State) : Prop := ∃ sr mb, rateAccepted sr = true ∧ TakesControl s (.prepare sr mb)

/-- No word acts in the next step: the inbox is empty or its head does not act now. -/
def TakesNoWord (s : State) : Prop := ∀ x rest, s.inbox = x :: rest → takesNow x s = false

/-- What a block that is not prepared may depend on: everything but the records that hold no value (R21). -/
def SameOutside (s s' : State) : Prop :=
  s.cfg = s'.cfg ∧ s.inbox = s'.inbox ∧ s.resps = s'.resps ∧ s.out = s'.out ∧ s.g.prepared = s'.g.prepared ∧
    s.g.render = s'.g.render

end Sys2Proof.Machine
end

