-- ==== Sys2Proof/WellFormed.lean ====
section
/-! DEFINITION. WellFormed.lean: the operand ranges R103 calls legal. An operation outside them still has an encoding
and a meaning (it is ignored, R371); nothing in the machine asks for well-formedness. -/

namespace Sys2Proof

/-- `lane` is Kick, Snare or Hat (R103: "legal 0..2"). -/
def laneLegal (lane : BitVec 8) : Bool := lane.toNat < 3

/-- `step` is one of the sixteen (R103: "legal 0..15"). -/
def stepLegal (step : BitVec 8) : Bool := step.toNat < 16

/-- `index` names a parameter (R103: "legal 0..76"). -/
def indexLegal (index : BitVec 8) : Bool := index.toNat < 77

/-- The operands are in the ranges R103 gives them. -/
def Instr.wf : Instr → Bool
  | .setStep lane step _ _ => laneLegal lane && stepLegal step
  | .cmdToggleStep lane step _ => laneLegal lane && stepLegal step
  | .setParam index _ => indexLegal index
  | .prepare _ _ => true
  | .reset => true
  | .setBpm _ => true
  | .setPlaying _ => true
  | .clearPattern => true
  | .getStepIndex => true
  | .getBpm => true
  | .isPlaying => true
  | .cmdSetBpm _ => true
  | .cmdSetPlaying _ => true
  | .process _ _ => true

end Sys2Proof
end

