-- ==== Sys2Proof/Certificates/Slice0/Obligations.lean ====
section
/-! DEFINITION. Certificates/Slice0/Obligations.lean: the statements for the provers. Float constants are written as bit
patterns: 40.0 = 0x42200000, 120.0 = 0x42F00000, 240.0 = 0x43700000, 1.0 = 0x3F800000. -/

open Sys2Proof Sys2Proof.Machine

/-! ## Encoding -/

/-- R100, R102 to R118: decoding the canonical word of any operation gives it back, whatever its operands. -/
def Obligations.DecodeInvertsEncode : Prop := ∀ i : Instr, decode (encode i) = .ok i

/-- R102, R104 to R117: which bits each operand is read from, with every unused field arbitrary. -/
def Obligations.OperandFieldsAndIgnoredBits : Prop :=
  ∀ (a b c : BitVec 8) (imm : BitVec 32),
    decode (Word.make 0x01#8 a b c imm) = .ok (.prepare ⟨imm⟩ (a ++ b ++ c)) ∧
    decode (Word.make 0x02#8 a b c imm) = .ok .reset ∧
    decode (Word.make 0x03#8 a b c imm) = .ok (.setBpm ⟨imm⟩) ∧
    decode (Word.make 0x04#8 a b c imm) = .ok (.setPlaying (c.getLsbD 0)) ∧
    decode (Word.make 0x05#8 a b c imm) = .ok (.setStep a b (c.getLsbD 0) ⟨imm⟩) ∧
    decode (Word.make 0x06#8 a b c imm) = .ok .clearPattern ∧
    decode (Word.make 0x07#8 a b c imm) = .ok (.setParam a ⟨imm⟩) ∧
    decode (Word.make 0x08#8 a b c imm) = .ok .getStepIndex ∧
    decode (Word.make 0x09#8 a b c imm) = .ok .getBpm ∧
    decode (Word.make 0x0A#8 a b c imm) = .ok .isPlaying ∧
    decode (Word.make 0x10#8 a b c imm) = .ok (.cmdToggleStep a b (c.getLsbD 0)) ∧
    decode (Word.make 0x11#8 a b c imm) = .ok (.cmdSetBpm ⟨imm⟩) ∧
    decode (Word.make 0x12#8 a b c imm) = .ok (.cmdSetPlaying (c.getLsbD 0)) ∧
    decode (Word.make 0x20#8 a b c imm) = .ok (.process imm a)

/-- R118, R119: a word is an operation exactly if its opcode byte is one of the fourteen, the operation's opcode is that
byte, and a word with any other opcode is rejected as reserved under that opcode. -/
def Obligations.OpcodeAloneSelects : Prop :=
  ∀ w : W64,
    (Word.opc w ∈ [0x01#8, 0x02#8, 0x03#8, 0x04#8, 0x05#8, 0x06#8, 0x07#8, 0x08#8, 0x09#8, 0x0A#8, 0x10#8, 0x11#8,
        0x12#8, 0x20#8] → ∃ i, decode w = .ok i ∧ i.opcode = Word.opc w) ∧
    (Word.opc w ∉ [0x01#8, 0x02#8, 0x03#8, 0x04#8, 0x05#8, 0x06#8, 0x07#8, 0x08#8, 0x09#8, 0x0A#8, 0x10#8, 0x11#8,
        0x12#8, 0x20#8] → decode w = .error (.reservedOpcode (Word.opc w)))

/-- R121, R331, R332, R400: words the spec writes out decode to the operations it writes beside them. -/
def Obligations.SpecWordsDecode : Prop :=
  decode 0x050004013F4CCCCD#64 = .ok (.setStep 0#8 4#8 true ⟨0x3F4CCCCD#32⟩) ∧
  decode 0x1100000042B40000#64 = .ok (.cmdSetBpm ⟨0x42B40000#32⟩) ∧
  decode 0x2002000000000200#64 = .ok (.process 512#32 2#8) ∧
  decode 0x01000200473B8000#64 = .ok (.prepare ⟨0x473B8000#32⟩ 512#24) ∧
  decode 0x03FFFFFF42B40000#64 = .ok (.setBpm ⟨0x42B40000#32⟩) ∧
  decode 0x040000FE00000000#64 = .ok (.setPlaying false)

/-- R76: the little-endian byte image of a word decodes as the word, and so does the table's reading of it. -/
def Obligations.ByteImageDecodesAsWord : Prop :=
  ∀ w : W64, decodeBytes (bytesOfWord 8 w.toNat) = decode w ∧
    decodeTableWord 64 w.toNat = (match decode w with | .ok i => some i | .error _ => none)

/-! ## Steps and ports -/

/-- R80, R101, R320, R346: a CTRL word, a `PROCESS`, or a drained command runs the operation its word decodes to; the
step takes the word off the inbox, or off the queue. The inbox, its arrival counts, and so the third clause (a waiting
word comes one engine micro-step nearer in the same step) are the model's choice (assumption 9, DESIGN CHOICE); that a
`PREPARE` with a bad rate acts at once in the first clause, also while a render is in flight, is the model's reading of
R400 (assumption 12, DEDUCED). -/
def Obligations.StepRunsTheDecodedOperation : Prop :=
  (∀ (s : State) (x : Presented) (rest : List Presented) (i : Instr), s.inbox = x :: rest → x.port ≠ .cmd →
    decode x.word = .ok i → i.port = x.port →
    (s.g.busy = false ∨ (x.arrival = .after 0 ∧ x.port = .ctrl ∧ holds i = false)) →
    step s = exec i { s with inbox := rest }) ∧
  (∀ (s : State) (r : Render) (w : W64) (rest : List W64) (i : Instr), s.inbox = [] → s.g.render = some r →
    r.phase = .drain → s.q = w :: rest → decode w = .ok i → i.port = .cmd → step s = exec i { s with q := rest }) ∧
  (∀ (s : State) (x : Presented) (xs : List Presented) (r : Render) (w : W64) (rest : List W64) (i : Instr),
    s.inbox = x :: xs → takesNow x s = false → s.g.render = some r → r.phase = .drain → s.q = w :: rest →
    decode w = .ok i → i.port = .cmd →
    step s = exec i { s with inbox := { x with arrival := x.arrival.sooner } :: xs, q := rest })

/-- R323, R344: on CTRL or RENDER a reserved opcode, or one that belongs to another port, changes nothing and is
answered 0; a drained word whose opcode is not 0x10, 0x11 or 0x12 is removed from the queue and nothing else happens.
(On CMD nothing is decoded, R336.) -/
def Obligations.ReservedOrWrongPortIgnored : Prop :=
  (∀ (s : State) (x : Presented) (rest : List Presented), s.inbox = x :: rest → takesNow x s = true → x.port ≠ .cmd →
    (∀ i, decode x.word = .ok i → i.port ≠ x.port) →
    step s = .next { s with inbox := rest, resps := (x.port, 0#32) :: s.resps }) ∧
  (∀ (s : State) (r : Render) (w : W64) (rest : List W64), s.g.render = some r → r.phase = .drain → s.q = w :: rest →
    Word.opc w ∉ [0x10#8, 0x11#8, 0x12#8] → engineStep s = .next { s with q := rest })

/-- R336, R322: a push appends any word at the tail and answers 1, or drops it and answers 0 when the queue is full or
the block is not prepared. -/
def Obligations.PushAppendsOrDrops : Prop :=
  ∀ (s : State) (x : Presented) (rest : List Presented), s.inbox = x :: rest → takesNow x s = true → x.port = .cmd →
    (s.g.prepared = true → s.q.length ≠ s.cfg.cmdqDepth →
      step s = .next { s with inbox := rest, q := s.q ++ [x.word], resps := (.cmd, 1#32) :: s.resps }) ∧
    (s.g.prepared = false ∨ s.q.length = s.cfg.cmdqDepth →
      step s = .next { s with inbox := rest, resps := (.cmd, 0#32) :: s.resps })

/-- R402, R320: while a render is in flight a `PREPARE` with an accepted rate, a `RESET` and any RENDER word do not act:
the word stays and the engine moves. That the words behind it stay too, of whatever port, is the model's one inbox
(assumption 9, DESIGN CHOICE): behind a held CTRL word a push waits by assumption 10 (DEDUCED), and behind a waiting
RENDER word a CTRL word waits because the inbox's order is the order of taking (assumptions 9 and 11). That the held word
comes one engine micro-step nearer is assumption 9's arrival count; that a `PREPARE` with a bad rate is not held is
assumption 12 (DEDUCED). -/
def Obligations.HeldWordsWait : Prop :=
  ∀ (s t : State) (x : Presented) (rest : List Presented), s.inbox = x :: rest → s.g.busy = true →
    (x.port = .render ∨ (x.port = .ctrl ∧ (decode x.word = .ok .reset ∨
      ∃ sr mb, rateAccepted sr = true ∧ decode x.word = .ok (.prepare sr mb)))) →
    step s = .next t →
    t.inbox = { x with arrival := x.arrival.sooner } :: rest ∧
      engineStep { s with inbox := { x with arrival := x.arrival.sooner } :: rest } = .next t

/-- R346, R83, R340, R344: with no word arriving, a drain applies every queued word once, in order, and then leaves for
the snapshot with the queue empty. -/
def Obligations.DrainAppliesQueueInOrder : Prop :=
  ∀ (s : State) (r : Render), s.inbox = [] → s.g.render = some r → r.phase = .drain →
    Sys2Proof.core.run (s.q.length + 1) s =
      .next ((s.q.foldl applyWord { s with q := [] }).withRender (some { r with phase := .snap }))

/-- R321: a word that acts gets exactly one response, on its own port, except a `PROCESS` taken in a prepared block,
which is answered at its completion. -/
def Obligations.OneResponsePerWord : Prop :=
  ∀ (s t : State) (x : Presented) (rest : List Presented), s.inbox = x :: rest → takesNow x s = true →
    step s = .next t →
    (∃ v, t.resps = (x.port, v) :: s.resps) ∨
      (t.resps = s.resps ∧ t.g.busy = true ∧ ∃ nf nc, decode x.word = .ok (.process nf nc))

/-! ## CTRL operations -/

/-- R400, R60, R404: `PREPARE` with an accepted rate writes every piece of state and answers 0; a rate that is NaN,
infinite, zero or negative makes it ignored. -/
def Obligations.PrepareInitialisesEverything : Prop :=
  ∀ (sr : F32) (mb : BitVec 24) (s : State),
    (sr.isNaN = true ∨ sr.isInf = true ∨ sr.isZero = true ∨ sr.isNeg = true →
      exec (.prepare sr mb) s = .next { s with resps := (.ctrl, 0#32) :: s.resps }) ∧
    (sr.isNaN = false → sr.isInf = false → F32.zero.lt sr = true → s.g.busy = false →
    ∃ t, exec (.prepare sr mb) s = .next t ∧ t.g = ⟨true, sr, mb.setWidth 32, none⟩ ∧
      (∀ lane step, lane < 3 → step < 16 → t.patAt lane step = ⟨false, ⟨0#32⟩⟩) ∧
      (∀ i, i < s.cfg.nparam → t.ptAt i = ptReset s.cfg i ∧ t.par i = ptReset s.cfg i) ∧ t.q = [] ∧
      t.t = ⟨⟨0x42F00000#32⟩, false, 0#4, 0#64, ⟨0#64⟩⟩ ∧
      t.k = Kick.reset s.cfg ∧ t.sn = Snare.reset s.cfg ∧ t.ht = Hat.reset s.cfg ∧ t.fx = FX.reset ∧
      t.rv = Reverb.reset ∧ t.ms = Master.reset ∧
      t.cfg = s.cfg ∧ t.inbox = s.inbox ∧ t.out = s.out ∧ t.resps = (.ctrl, 0#32) :: s.resps)

/-- R401: `RESET` returns the position, the voices, the effects and the master to their reset columns and keeps
`G.sr`, `G.maxBlk`, `PAT`, `PT`, `P`, `Q`, `T.bpm` and `T.playing`. -/
def Obligations.ResetKeepsTempoPatternAndParameters : Prop :=
  ∀ s : State, s.g.prepared = true → s.g.busy = false →
    exec .reset s = .next { s with
      t := ⟨s.t.bpm, s.t.playing, 0#4, 0#64, ⟨0#64⟩⟩, k := Kick.reset s.cfg, sn := Snare.reset s.cfg,
      ht := Hat.reset s.cfg, fx := FX.reset, rv := Reverb.reset, ms := Master.reset,
      resps := (.ctrl, 0#32) :: s.resps }

/-- R50 to R55: the reset columns, every field. A delay line of zeros lists no element and its cursor is 0 (an unlisted
element reads as 0, assumption 15). -/
def Obligations.ResetColumns : Prop :=
  ∀ c : Cfg,
    (∃ r : BitVec 32, (c.kickSeed0 ≠ 0#32 → r = c.kickSeed0) ∧ (c.kickSeed0 = 0#32 → r = 1#32) ∧
      Kick.reset c = ⟨false, ⟨⟨0#32⟩⟩, ⟨⟨0#32⟩⟩, ⟨⟨0#32⟩⟩, ⟨⟨0#32⟩⟩, two ⟨.off, ⟨0#32⟩⟩, ⟨⟨0#32⟩⟩, ⟨⟨0#32⟩⟩,
        two ⟨⟨0#32⟩⟩, ⟨⟨0#32⟩⟩, c.kickSeed0, ⟨r⟩, ⟨⟨0#32⟩⟩, ⟨⟨0#32⟩⟩, two ⟨⟨0#32⟩⟩, ⟨⟨0#32⟩⟩, ⟨⟨0#32⟩⟩, ⟨⟨0#32⟩⟩,
        ⟨0#32⟩, ⟨0#32⟩⟩) ∧
    Snare.reset c = ⟨false, ⟨⟨0#32⟩⟩, ⟨⟨0#32⟩⟩, ⟨⟨0#32⟩⟩, ⟨c.snareRng0⟩⟩ ∧
    Hat.reset c = ⟨false, ⟨⟨0#32⟩⟩, ⟨⟨0#32⟩⟩, ⟨c.hatRng0⟩, ⟨0x7FC00000#32⟩, ⟨0#32⟩⟩ ∧
    FX.reset = ⟨two (four ⟨⟨0#32⟩, ⟨0#32⟩, ⟨0#32⟩, ⟨0#32⟩⟩), ⟨0#32⟩, ⟨⟨0#32⟩⟩, both (four ⟨[], 0⟩), both ⟨⟨0#32⟩⟩,
      both ⟨⟨0#32⟩⟩, both ⟨⟨0#32⟩, ⟨0#32⟩, ⟨0#32⟩⟩, ⟨.off, ⟨0#32⟩⟩, both ⟨⟨0#32⟩⟩⟩ ∧
    Reverb.reset = ⟨both (four ⟨⟨[], 0⟩, ⟨0#32⟩⟩), both (two ⟨[], 0⟩)⟩ ∧
    Master.reset = ⟨both ⟨⟨0#32⟩⟩, both ⟨⟨0#32⟩⟩⟩ ∧ (∀ i, Delay.read ⟨[], i⟩ = ⟨0#32⟩)

/-- R331: `SETBPM` ignores a NaN and clamps every other tempo to [40, 240]; it writes `T.bpm` alone. -/
def Obligations.SetBpmClampsTempo : Prop :=
  ∀ (bpm : F32) (s : State), s.g.prepared = true →
    (bpm.isNaN = true → exec (.setBpm bpm) s = .next { s with resps := (.ctrl, 0#32) :: s.resps }) ∧
    (bpm.isNaN = false → ∃ b : F32,
      exec (.setBpm bpm) s = .next { s with t := { s.t with bpm := b }, resps := (.ctrl, 0#32) :: s.resps } ∧
      (bpm.lt ⟨0x42200000#32⟩ = true → b = ⟨0x42200000#32⟩) ∧
      (bpm.gt ⟨0x43700000#32⟩ = true → b = ⟨0x43700000#32⟩) ∧
      (bpm.lt ⟨0x42200000#32⟩ = false → bpm.gt ⟨0x43700000#32⟩ = false → b = bpm))

/-- R335: `SETPLAYING` writes `T.playing` alone; its two encodings. -/
def Obligations.SetPlayingWritesRunState : Prop :=
  decode 0x0400000100000000#64 = .ok (.setPlaying true) ∧ decode 0x0400000000000000#64 = .ok (.setPlaying false) ∧
  ∀ (on : Bool) (s : State), s.g.prepared = true →
    exec (.setPlaying on) s = .next { s with t := { s.t with playing := on }, resps := (.ctrl, 0#32) :: s.resps }

/-- R332: `SETSTEP` is ignored for a bad lane, a bad step or a NaN velocity; else it writes one whole element, the
velocity clamped to [0, 1], and no other element. -/
def Obligations.SetStepWritesOneElement : Prop :=
  ∀ (lane step : BitVec 8) (on : Bool) (velocity : F32) (s : State), s.g.prepared = true → Memory.wf s = true →
    (3 ≤ lane.toNat ∨ 16 ≤ step.toNat ∨ velocity.isNaN = true →
      exec (.setStep lane step on velocity) s = .next { s with resps := (.ctrl, 0#32) :: s.resps }) ∧
    (lane.toNat < 3 → step.toNat < 16 → velocity.isNaN = false → ∃ (t : State) (v : F32),
      exec (.setStep lane step on velocity) s = .next t ∧
      t.patAt lane.toNat step.toNat = ⟨on, v⟩ ∧
      (velocity.lt ⟨0#32⟩ = true → v = ⟨0#32⟩) ∧ (velocity.gt ⟨0x3F800000#32⟩ = true → v = ⟨0x3F800000#32⟩) ∧
      (velocity.lt ⟨0#32⟩ = false → velocity.gt ⟨0x3F800000#32⟩ = false → v = velocity) ∧
      (∀ l st, l < 3 → st < 16 → ¬(l = lane.toNat ∧ st = step.toNat) → t.patAt l st = s.patAt l st) ∧
      t = { s with pat := t.pat, resps := (.ctrl, 0#32) :: s.resps })

/-- R333: `CLEARPATTERN` leaves all 48 elements `{false, 0.0}` and touches nothing else; its encoding. -/
def Obligations.ClearPatternZeroesAllSteps : Prop :=
  decode 0x0600000000000000#64 = .ok .clearPattern ∧ ∀ s : State, s.g.prepared = true → ∃ t : State, exec .clearPattern s = .next t ∧
    (∀ lane step, lane < 3 → step < 16 → t.patAt lane step = ⟨false, ⟨0#32⟩⟩) ∧
    t = { s with pat := t.pat, resps := (.ctrl, 0#32) :: s.resps }

/-- On R334, R40, R10: `SETPARAM` is ignored for an index past the table or a NaN; else it stores the value clamped to the cell's
range in that cell and in no other, and the snapshot `P` does not move. In the reference configuration the table is the
77 rows of R40: their least, greatest and reset values, as bit patterns. In every configuration the feedback's greatest
value is at most 0.5, and a parameter's is the end of its `PT_RANGE` where that is below its bound: that a range past
`COEF_MAX`, `ATK_COEF_MAX` or `FEEDBACK_MAX` is cut there is the model's choice (assumption 3, DESIGN CHOICE). -/
def Obligations.SetParamStoresClampedValue : Prop :=
  Config.reference.nparam = 77 ∧ (List.range 77).map (rowPattern Config.reference) = tablePatterns ∧
  (∀ c : Cfg, (ptMax c Param.K_FEEDBACK).le ⟨0x3F000000#32⟩ = true) ∧
  (∀ (c : Cfg) (i : Nat) (r : ParamRange), c.ptRanges[i]? = some r →
    (∀ m, ptCap c i = some m → r.max.lt m = true) → ptMax c i = r.max) ∧
  ∀ (index : BitVec 8) (value : F32) (s : State), s.g.prepared = true → Memory.wf s = true →
    (ptMin s.cfg index.toNat).le (ptMax s.cfg index.toNat) = true →
    (s.cfg.nparam ≤ index.toNat ∨ value.isNaN = true →
      exec (.setParam index value) s = .next { s with resps := (.ctrl, 0#32) :: s.resps }) ∧
    (index.toNat < s.cfg.nparam → value.isNaN = false → ∃ t : State,
      exec (.setParam index value) s = .next t ∧
      (value.lt (ptMin s.cfg index.toNat) = true → t.ptAt index.toNat = ptMin s.cfg index.toNat) ∧
      (value.gt (ptMax s.cfg index.toNat) = true → t.ptAt index.toNat = ptMax s.cfg index.toNat) ∧
      (value.lt (ptMin s.cfg index.toNat) = false → value.gt (ptMax s.cfg index.toNat) = false →
        t.ptAt index.toNat = value) ∧
      (∀ j, j ≠ index.toNat → t.ptAt j = s.ptAt j) ∧
      t = { s with pt := t.pt, resps := (.ctrl, 0#32) :: s.resps })

/-- R337, R338, R339: each getter answers its field and changes nothing; their encodings. -/
def Obligations.GettersReadTheirField : Prop :=
  decode 0x0800000000000000#64 = .ok .getStepIndex ∧ decode 0x0900000000000000#64 = .ok .getBpm ∧
  decode 0x0A00000000000000#64 = .ok .isPlaying ∧
  ∀ s : State, s.g.prepared = true →
    exec .getStepIndex s = .next { s with resps := (.ctrl, s.t.stepIndex.setWidth 32) :: s.resps } ∧
    exec .getBpm s = .next { s with resps := (.ctrl, s.t.bpm.bits) :: s.resps } ∧
    (s.t.playing = true → exec .isPlaying s = .next { s with resps := (.ctrl, 1#32) :: s.resps }) ∧
    (s.t.playing = false → exec .isPlaying s = .next { s with resps := (.ctrl, 0#32) :: s.resps })

/-- R322: before `PREPARE` every CTRL operation but `PREPARE` is ignored and answered 0, the getters too. -/
def Obligations.IgnoredBeforePrepare : Prop :=
  ∀ (i : Instr) (s : State), s.g.prepared = false → s.g.busy = false → i.port = .ctrl →
    (∀ sr mb, i ≠ .prepare sr mb) → exec i s = .next { s with resps := (.ctrl, 0#32) :: s.resps }

/-! ## Queued commands -/

/-- R341: an applied `CMD_TOGGLESTEP` writes `on` of one element and keeps its velocity; a bad lane or step is ignored. -/
def Obligations.ToggleStepKeepsVelocity : Prop :=
  ∀ (lane step : BitVec 8) (on : Bool) (s : State), Memory.wf s = true →
    (3 ≤ lane.toNat ∨ 16 ≤ step.toNat → exec (.cmdToggleStep lane step on) s = .next s) ∧
    (lane.toNat < 3 → step.toNat < 16 → ∃ t : State, exec (.cmdToggleStep lane step on) s = .next t ∧
      t.patAt lane.toNat step.toNat = ⟨on, (s.patAt lane.toNat step.toNat).velocity⟩ ∧
      (∀ l st, l < 3 → st < 16 → ¬(l = lane.toNat ∧ st = step.toNat) → t.patAt l st = s.patAt l st) ∧
      t = { s with pat := t.pat })

/-- R342, R343: an applied `CMD_SETBPM` ignores a NaN and clamps every other tempo, as `SETBPM` does, and writes `T.bpm`
alone; an applied `CMD_SETPLAYING` writes `T.playing` alone. -/
def Obligations.QueuedTempoAndRunState : Prop :=
  ∀ (bpm : F32) (on : Bool) (s : State),
    exec (.cmdSetPlaying on) s = .next { s with t := { s.t with playing := on } } ∧
    (bpm.isNaN = true → exec (.cmdSetBpm bpm) s = .next s) ∧
    (bpm.isNaN = false → ∃ b : F32, exec (.cmdSetBpm bpm) s = .next { s with t := { s.t with bpm := b } } ∧
      (bpm.lt ⟨0x42200000#32⟩ = true → b = ⟨0x42200000#32⟩) ∧
      (bpm.gt ⟨0x43700000#32⟩ = true → b = ⟨0x43700000#32⟩) ∧
      (bpm.lt ⟨0x42200000#32⟩ = false → bpm.gt ⟨0x43700000#32⟩ = false → b = bpm))

/-! ## Rendering -/

/-- R345, R349, R80 (c): a `PROCESS` accepted in a prepared block starts the engine's drain with the frame count, a
negative one counted as 0. That acceptance also empties `OUT`, which the model keeps in State, is the model's choice
(assumption 14, DESIGN CHOICE), as is the record that holds the render's progress (assumption 19). Nothing else moves. -/
def Obligations.ProcessIsAccepted : Prop :=
  ∀ (numFrames : BitVec 32) (nc : BitVec 8) (s : State), s.g.prepared = true → s.g.busy = false →
    ∃ nf : BitVec 32, exec (.process numFrames nc) s = .next { s with
        out := ⟨0, []⟩, g := { s.g with render := some ⟨.drain, s.cfg.snapOrder, 0#32, nf, nc⟩ } } ∧
      (numFrames.toInt < 0 → nf = 0#32) ∧ (0 ≤ numFrames.toInt → nf = numFrames)

/-- R348, R353: before `PREPARE` a `PROCESS` writes `nf·nc` elements of `+0.0`, answers 0 and changes nothing else. -/
def Obligations.ProcessBeforePrepareWritesZeros : Prop :=
  ∀ (numFrames : BitVec 32) (nc : BitVec 8) (s : State), s.g.prepared = false → s.g.busy = false →
    ∃ t : State, exec (.process numFrames nc) s = .next t ∧
      t = { s with out := t.out, resps := (.render, 0#32) :: s.resps } ∧
      (numFrames.toInt < 0 → t.out.len = 0) ∧ (0 ≤ numFrames.toInt → t.out.len = numFrames.toNat * nc.toNat) ∧
      (∀ i, i < t.out.len → t.out.at? i = some ⟨0#32⟩)

/-- R347, R349, R353: a snapshot step copies the next cell of `PT` to `P` and no other; after the last cell the ticks
begin, or with no frame to render the `PROCESS` completes and is answered 0. -/
def Obligations.SnapshotStepCopiesOneCell : Prop :=
  ∀ (s : State) (r : Render) (i : Nat) (rest : List Nat), s.g.render = some r → r.phase = .snap →
    r.snapLeft = i :: rest → Memory.wf s = true →
    ∃ t : State, engineStep s = .next t ∧ t.par i = s.ptAt i ∧ (∀ j, j ≠ i → t.par j = s.par j) ∧
      (rest ≠ [] → t = { s with p := t.p, g := { s.g with render := some { r with snapLeft := rest } } }) ∧
      (rest = [] → r.numFrames ≠ 0#32 →
        t = { s with p := t.p, g := { s.g with render := some { r with phase := .tick, snapLeft := [] } } }) ∧
      (rest = [] → r.numFrames = 0#32 →
        t = { s with p := t.p, g := { s.g with render := none }, resps := (.render, 0#32) :: s.resps })

/-- R352, R345, R353: a tick step writes one frame: nothing, the downmix, the pair, or the pair and copies of the
downmix, by the channel count; earlier elements stay; the last frame completes the `PROCESS`. -/
def Obligations.TickStepWritesOneFrame : Prop :=
  ∀ (s : State) (r : Render) (nc : Nat), s.g.render = some r → r.phase = .tick → nc = r.numChannels.toNat →
    Memory.wf s = true → RenderLegal s = true →
    ∃ t : State, engineStep s = .next t ∧ t.out.len = (r.n.toNat + 1) * nc ∧
      (∀ i, i < r.n.toNat * nc → t.out.at? i = s.out.at? i) ∧
      (nc = 1 → t.out.at? r.n.toNat = some (F32.half.mul ((tick s).1.l.add (tick s).1.r))) ∧
      (2 ≤ nc → t.out.at? (r.n.toNat * nc) = some (tick s).1.l ∧
        t.out.at? (r.n.toNat * nc + 1) = some (tick s).1.r ∧
        (∀ ch, 2 ≤ ch → ch < nc →
          t.out.at? (r.n.toNat * nc + ch) = some (F32.half.mul ((tick s).1.l.add (tick s).1.r)))) ∧
      (r.n.toNat + 1 < r.numFrames.toNat → t = { (tick s).2 with
        out := t.out, g := { s.g with render := some { r with n := r.n + 1#32 } } }) ∧
      (r.n.toNat + 1 = r.numFrames.toNat → t = { (tick s).2 with
        out := t.out, g := { s.g with render := none }, resps := (.render, 0#32) :: s.resps })

/-- R345 to R347, R352, R353: a `PROCESS` that nothing interrupts is in flight after each of its steps but the last: one
acceptance, the drain of every queued word and one empty test, one step for each cell and one for each frame; after
exactly that many it is complete: the queue is empty, every cell is copied, exactly `nf·nc` elements are written, and it
has been answered 0. -/
def Obligations.UninterruptedProcessCompletes : Prop :=
  ∀ (s : State) (x : Presented) (numFrames : BitVec 32) (nc : BitVec 8) (steps : Nat), s.inbox = [x] →
    x.port = .render → decode x.word = .ok (.process numFrames nc) → s.g.prepared = true → s.g.busy = false →
    s.cfg.snapOrder ≠ [] → Memory.wf s = true →
    steps = 1 + (s.q.length + 1) + s.cfg.snapOrder.length + (frameCount numFrames).toNat →
    (∀ k, 1 ≤ k → k < steps → ∃ u : State, Sys2Proof.core.run k s = .next u ∧ u.g.busy = true) ∧
    ∃ t : State, Sys2Proof.core.run steps s = .next t ∧
      t.g.busy = false ∧ t.inbox = [] ∧ t.q = [] ∧ t.resps = (.render, 0#32) :: s.resps ∧
      t.out.len = (frameCount numFrames).toNat * nc.toNat ∧ t.pt = s.pt ∧
      (∀ i, i ∈ s.cfg.snapOrder → t.par i = s.ptAt i)

/-- R370: every step of every state ends in a next state: nothing faults, nothing is refused. No step changes the
configuration, which the model holds in State (assumption 1). -/
def Obligations.EveryStepHasANextState : Prop := ∀ s : State, ∃ t : State, step s = .next t ∧ t.cfg = s.cfg

/-! ## What every step keeps -/

/-- Every space keeps its one canonical form. -/
def Obligations.StepKeepsMemoryCanonical : Prop :=
  ∀ s t : State, Memory.wf s = true → step s = .next t → Memory.wf t = true

/-- R49, R73: every delay cursor stays inside its line, and nothing is written outside it. -/
def Obligations.StepKeepsCursorsInside : Prop :=
  ∀ s t : State, s.cfg.lengthsLegal = true → CursorsInside s = true → step s = .next t → CursorsInside t = true

/-- R29: the tempo stays in [40, 240] and is never a NaN. -/
def Obligations.StepKeepsTempoInRange : Prop :=
  ∀ s t : State, TempoLegal s = true → step s = .next t → TempoLegal t = true

/-- R25, R26: every cell of the table and of the snapshot stays inside its range and is never a NaN. -/
def Obligations.StepKeepsParametersInRange : Prop :=
  ∀ s t : State, s.cfg.tableLegal = true → Memory.wf s = true → ParamsLegal s → step s = .next t → ParamsLegal t

/-- R24: every stored velocity stays in [0, 1]. -/
def Obligations.StepKeepsVelocitiesInRange : Prop :=
  ∀ s t : State, Memory.wf s = true → VelocitiesLegal s → step s = .next t → VelocitiesLegal t

/-- R27: the queue never holds more than `CMDQ_DEPTH` words. -/
def Obligations.StepKeepsQueueBounded : Prop :=
  ∀ s t : State, QueueBounded s = true → step s = .next t → QueueBounded t = true

/-- R22, R345: the render progress stays one the rules reach; in particular a render is in flight only in a prepared
block, and in its ticks exactly the elements of the frames done are written. -/
def Obligations.StepKeepsRenderProgressLegal : Prop :=
  ∀ s t : State, s.cfg.snapOrder ≠ [] → RenderLegal s = true → step s = .next t → RenderLegal t = true

/-- R48: every oscillator phase stays in [0, TWO_PI). -/
def Obligations.StepKeepsPhasesInTurn : Prop :=
  ∀ s t : State, PhasesLegal s = true → step s = .next t → PhasesLegal t = true

/-- R48, R151: with the reference shifts and non-zero seeds no noise state is ever 0. -/
def Obligations.StepKeepsNoiseAlive : Prop :=
  ∀ s t : State, s.cfg.shiftsReference = true → s.cfg.seedsLegal = true → NoiseAlive s = true → step s = .next t →
    NoiseAlive t = true

/-- R45, R138: every envelope value stays in [0, 1], in binary32. -/
def Obligations.StepKeepsEnvelopesInUnit : Prop :=
  ∀ s t : State, s.cfg.tableLegal = true → ParamsLegal s → VelocitiesLegal s → EnvelopesLegal s = true →
    step s = .next t → EnvelopesLegal t = true

/-- R293: every element ever written to `OUT` is finite and in [-2, 2], whatever the parameters and the elementary
functions. -/
def Obligations.StepKeepsOutputSafe : Prop :=
  ∀ s t : State, Memory.wf s = true → RenderLegal s = true → OutputSafe s → step s = .next t → OutputSafe t

/-- R241, R52: the hat's cached coefficient always belongs to its cached cutoff. -/
def Obligations.StepKeepsHatCacheSound : Prop :=
  ∀ s t : State, HatCacheSound s → step s = .next t → HatCacheSound t

/-- The machine at power-on meets every invariant above. The values it holds there before `PREPARE` are the model's
(assumption 8). -/
def Obligations.ResetMeetsTheInvariants : Prop :=
  Memory.wf State.reset = true ∧ CursorsInside State.reset = true ∧ TempoLegal State.reset = true ∧
    ParamsLegal State.reset ∧ VelocitiesLegal State.reset ∧ QueueBounded State.reset = true ∧
    RenderLegal State.reset = true ∧ PhasesLegal State.reset = true ∧ NoiseAlive State.reset = true ∧
    EnvelopesLegal State.reset = true ∧ OutputSafe State.reset ∧ HatCacheSound State.reset ∧
    State.reset.cfg.lengthsLegal = true ∧ State.reset.cfg.tableLegal = true ∧ State.reset.cfg.seedsLegal = true ∧
    State.reset.cfg.shiftsReference = true ∧ State.reset.cfg.orderLegal ∧ State.reset.cfg.depthLegal = true

/-! ## Rules about the whole machine -/

/-- R21, R403: the block powers on unprepared and idle; nothing clears `G.prepared`, and only a `PREPARE` with an
accepted rate sets it. -/
def Obligations.OnlyPrepareSetsPrepared : Prop :=
  State.reset.g.prepared = false ∧ State.reset.g.busy = false ∧
  ∀ s t : State, step s = .next t →
    (s.g.prepared = true → t.g.prepared = true) ∧
    (s.g.prepared = false → t.g.prepared = true → TakesPrepare s)

/-- R86, R26: only a snapshot step, in which no word is taken, or a `PREPARE` changes the snapshot. -/
def Obligations.OnlySnapshotStepsChangeP : Prop :=
  ∀ s t : State, step s = .next t → t.p ≠ s.p →
    TakesPrepare s ∨ (TakesNoWord s ∧ ∃ r, s.g.render = some r ∧ r.phase = .snap)

/-- R30, R31, R311: the position changes only in a tick while playing, in which no word is taken, or by `RESET` or
`PREPARE`. -/
def Obligations.OnlyPlayingTicksMoveThePosition : Prop :=
  ∀ s t : State, step s = .next t →
    (t.t.stepIndex ≠ s.t.stepIndex ∨ t.t.currentFrame ≠ s.t.currentFrame ∨ t.t.nextStepFrame ≠ s.t.nextStepFrame) →
    TakesPrepare s ∨ TakesControl s .reset ∨
      (TakesNoWord s ∧ ∃ r, s.g.render = some r ∧ r.phase = .tick ∧ s.t.playing = true)

/-- R33: the next firing never moves back but by `RESET` or `PREPARE`. -/
def Obligations.NextFiringNeverMovesBack : Prop :=
  ∀ s t : State, rateAccepted s.g.sr = true → TempoLegal s = true → s.t.nextStepFrame.isNaN = false →
    step s = .next t →
    s.t.nextStepFrame.le t.t.nextStepFrame = true ∨ TakesPrepare s ∨ TakesControl s .reset

/-- R21, R322: what a block holds before `PREPARE` is read by nothing: two blocks that differ only there step alike, and
once prepared they are equal. -/
def Obligations.UnpreparedStateIsNeverRead : Prop :=
  ∀ s s' t t' : State, SameOutside s s' → s.g.prepared = false → s.g.busy = false → step s = .next t →
    step s' = .next t' → SameOutside t t' ∧ (t.g.prepared = true → t = t')

/-- R354: with the reference constants, a rate of at least 16 Hz and legal parameters, a silent block stays silent and
every tick gives zeros, `+0.0` unless `M_GAIN` is stored as `-0.0` (R334 stores a `-0.0` as it is). The carrier phase and
the transient envelope may stand anywhere (assumption 25). Where R354's own conditions hold to the letter, they hold after
the tick too, unless a running shifter moves the carrier (R253) or a running transient stage attacks (R262). -/
def Obligations.SilenceIsKept : Prop :=
  ∀ s : State, s.cfg = Config.reference → ParamsLegal s → s.g.sr.isFinite = true →
    (F32.ofNat 16).le s.g.sr = true → Silent s = true →
    (tick s).1.l.isZero = true ∧ (tick s).1.r.isZero = true ∧ Silent (tick s).2 = true ∧
      ((s.par Param.M_GAIN).isNeg = false → (tick s).1 = ⟨⟨0#32⟩, ⟨0#32⟩⟩) ∧
      (SilentExact s = true →
        (s.par Param.FX_MIX).feq ⟨0#32⟩ = true ∨ ((s.par Param.FX_SHIFT_HZ).feq ⟨0#32⟩ = true ∧
          ((s.par Param.FX_TRANS_DEPTH).feq ⟨0#32⟩ = true ∨ s.fx.trEnv.state ≠ .attack)) →
        SilentExact (tick s).2 = true)

/-! ## The transport -/

/-- R301 to R304: what one tick does to the transport. -/
def Obligations.TickMovesTheTransport : Prop :=
  ∀ s : State,
    (s.t.playing = false → (tick s).2.t = s.t) ∧
    (s.t.playing = true → s.t.nextStepFrame.le (F64.ofNat s.t.currentFrame.toNat) = false →
      (tick s).2.t = { s.t with currentFrame := s.t.currentFrame + 1#64 }) ∧
    (s.t.playing = true → s.t.nextStepFrame.le (F64.ofNat s.t.currentFrame.toNat) = true →
      (tick s).2.t = { s.t with
        currentFrame := s.t.currentFrame + 1#64, stepIndex := s.t.stepIndex + 1#4,
        nextStepFrame := s.t.nextStepFrame.add
          ((((F64.ofF32 s.g.sr).mul (F64.ofNat 60)).div (F64.ofF32 s.t.bpm)).div (F64.ofNat 4)) })

/-- R308: at 48 kHz and 120 BPM, playing from position 0, 96 000 ticks end with `stepIndex = 0`, `currentFrame = 96000`
and `nextStepFrame = 96000.0`. -/
def Obligations.SixteenStepsTake96000Frames : Prop :=
  ∀ s : State, s.g.sr = ⟨0x473B8000#32⟩ →
    s.t = ⟨⟨0x42F00000#32⟩, true, 0#4, 0#64, ⟨0#64⟩⟩ →
    ((fun s => (tick s).2)^[96000] s).t = ⟨⟨0x42F00000#32⟩, true, 0#4, 96000#64, ⟨0x40F7700000000000#64⟩⟩

/-- R305, R301: when a step fires, each lane whose element is on is triggered with its stored velocity, the kick with
the FX transient, and the others are left alone. -/
def Obligations.FiringTriggersTheStepsThatAreOn : Prop :=
  ∀ s : State, s.t.playing = true → s.t.nextStepFrame.le (F64.ofNat s.t.currentFrame.toNat) = true →
    ((s.patAt 0 s.t.stepIndex.toNat).on = true →
      (transportStep s).k = s.k.trigger s.cfg s.par (s.patAt 0 s.t.stepIndex.toNat).velocity ∧
      (transportStep s).fx = { s.fx with trEnv := ⟨.attack, ⟨0#32⟩⟩ }) ∧
    ((s.patAt 0 s.t.stepIndex.toNat).on = false → (transportStep s).k = s.k ∧ (transportStep s).fx = s.fx) ∧
    ((s.patAt 1 s.t.stepIndex.toNat).on = true → (transportStep s).sn = { s.sn with
      envAmp := ⟨(s.patAt 1 s.t.stepIndex.toNat).velocity⟩, envTone := ⟨⟨0x3F800000#32⟩⟩, phase := ⟨⟨0#32⟩⟩,
      active := true }) ∧
    ((s.patAt 1 s.t.stepIndex.toNat).on = false → (transportStep s).sn = s.sn) ∧
    ((s.patAt 2 s.t.stepIndex.toNat).on = true → (transportStep s).ht = { s.ht with
      envAmp := ⟨(s.patAt 2 s.t.stepIndex.toNat).velocity⟩, active := true }) ∧
    ((s.patAt 2 s.t.stepIndex.toNat).on = false → (transportStep s).ht = s.ht)

/-! ## Voices, effects, primitives -/

/-- R191, R153: a kick trigger reseeds, restarts the six envelopes and five phases, and keeps the filter memories,
`fbPrev` and `osPrev`. -/
def Obligations.KickTriggerKeepsFilters : Prop :=
  ∀ (c : Cfg) (p : Nat → F32) (v : F32) (k : Kick), ∃ n : BitVec 32,
    n = k.seed * c.lcgA + c.lcgC ∧
    k.trigger c p v = { k with
      active := true, envAmp := ⟨v⟩, envPitch := ⟨⟨0x3F800000#32⟩⟩, envDrive := ⟨⟨0x3F800000#32⟩⟩,
      envTail := ⟨⟨0x3F800000#32⟩⟩, envL := ⟨⟨.attack, ⟨0#32⟩⟩, ⟨.attack, ⟨0#32⟩⟩⟩, phBody := ⟨⟨0#32⟩⟩,
      phTail := ⟨⟨0#32⟩⟩, phL := ⟨⟨wrap2pi (Config.twoPi.mul (p 35))⟩, ⟨wrap2pi (Config.twoPi.mul (p 42))⟩⟩,
      lfo := ⟨⟨0#32⟩⟩, seed := n, rng := ⟨if n = 0#32 then 1#32 else n⟩ }

/-- R212: an active kick draws one noise value for the click and one for each layer whose waveform is noise; an inactive
one draws none and touches nothing (R192). -/
def Obligations.KickNoiseDraws : Prop :=
  ∀ (c : Cfg) (p : Nat → F32) (sr : F32) (k : Kick),
    (k.active = false → k.process c p sr = (⟨0#32⟩, k)) ∧
    (k.active = true → ((k.process c p sr).2.rng.s) =
      (xorshift32 c)^[1 + (if selOscType (p 31) = .noise then 1 else 0) + (if selOscType (p 38) = .noise then 1 else 0)]
        k.rng.s)

/-- R209, R232, R237: after a sample a voice is active exactly while its governing envelopes are. -/
def Obligations.VoicesEndWithTheirEnvelopes : Prop :=
  ∀ (c : Cfg) (p : Nat → F32) (sr : F32) (k : Kick) (sn : Snare) (ht : Hat),
    (k.active = true → ((k.process c p sr).2.active = true ↔
      (k.envAmp.value.mul (p 0)).gt Config.envEps = true ∨ (k.process c p sr).2.envL.j0.state ≠ .off ∨
        (k.process c p sr).2.envL.j1.state ≠ .off)) ∧
    (sn.active = true → ((sn.process c p sr).2.active = true ↔ (sn.envAmp.value.mul (p 50)).gt Config.envEps = true)) ∧
    (ht.active = true → ((ht.process c p sr).2.active = true ↔ (ht.envAmp.value.mul (p 55)).gt Config.envEps = true))

/-- R250, R251: at `FX_MIX = 0` the chain passes its input and nothing of `FX` moves; a stage whose control is neutral
leaves its own memory as it was, whatever the other stages do. -/
def Obligations.BypassedStagesAreFrozen : Prop :=
  ∀ (c : Cfg) (p : Nat → F32) (sr k : F32) (fx : FX),
    ((p 68).feq ⟨0#32⟩ = true → fx.process c p sr k = (⟨k, k⟩, fx)) ∧
    ((p 58).feq ⟨0#32⟩ = true → (fx.process c p sr k).2.hil = fx.hil ∧ (fx.process c p sr k).2.hilD = fx.hilD ∧
      (fx.process c p sr k).2.shOsc = fx.shOsc) ∧
    ((p 60).feq ⟨0#32⟩ = true → (fx.process c p sr k).2.dif = fx.dif) ∧
    ((p 63).feq ⟨0#32⟩ = true → (fx.process c p sr k).2.ottLo = fx.ottLo ∧ (fx.process c p sr k).2.ottHi = fx.ottHi ∧
      (fx.process c p sr k).2.ottEnv = fx.ottEnv) ∧
    ((p 64).feq ⟨0#32⟩ = true → (fx.process c p sr k).2.trEnv = fx.trEnv) ∧
    ((p 67).ge c.fxToneBypassHz = true → (fx.process c p sr k).2.tone = fx.tone)

/-- R170: the value read from a line of `n` elements is the one written `n` steps before. -/
def Obligations.DelayReturnsAfterItsLength : Prop :=
  ∀ (n : Nat) (d : Delay) (v : F32) (vs : List F32), 1 ≤ n → Delay.wf d = true → Delay.inside n d = true →
    vs.length + 1 = n → ((v :: vs).foldl (fun d x => d.push n x) d).read = v

/-- R163, R160: `clamp2` of anything is finite and in [-2, 2]: a NaN becomes 0, a value past an end becomes that end, a
value already inside is kept; for a finite input and a threshold in (0, 4] the fold lies in [-t, t], and is the input itself inside. -/
def Obligations.ClampAndFoldStayInRange : Prop :=
  (∀ x : F32, sampleSafe (clamp2 x) = true ∧ (x.isNaN = true → clamp2 x = ⟨0#32⟩) ∧
    (x.gt ⟨0x40000000#32⟩ = true → clamp2 x = ⟨0x40000000#32⟩) ∧
    (x.lt ⟨0xC0000000#32⟩ = true → clamp2 x = ⟨0xC0000000#32⟩) ∧ (sampleSafe x = true → clamp2 x = x)) ∧
  (∀ x t : F32, x.isFinite = true → F32.zero.lt t = true → t.le (F32.ofNat 4) = true →
    F32.within t.neg t (foldback x t) = true ∧ (F32.within t.neg t x = true → foldback x t = x))

/-- R152: every noise sample is in [-1, 1). -/
def Obligations.NoiseSamplesInRange : Prop :=
  ∀ s : BitVec 32, (⟨0xBF800000#32⟩ : F32).le (noiseFloat s) = true ∧ (noiseFloat s).lt ⟨0x3F800000#32⟩ = true

/-- R133, R138, on R131 and R136: in binary32 one `next` of a decay envelope returns the value, never raises it and keeps
it in [0, 1]; one `next` of an attack-decay envelope returns a value in [0, 1] and leaves one there, and never raises it
in Decay. -/
def Obligations.EnvelopeStepsStayInUnit : Prop :=
  (∀ (e : DecayEnv) (c : F32), F32.unit e.value = true → F32.unit c = true →
    (e.next c).1 = e.value ∧ (e.next c).2.value.le e.value = true ∧ F32.unit (e.next c).2.value = true) ∧
  (∀ (e : ADEnv) (ca cd : F32), F32.unit e.value = true → F32.unit ca = true → F32.unit cd = true →
    F32.unit (e.next ca cd).1 = true ∧ F32.unit (e.next ca cd).2.value = true ∧
      (e.state = .decay → (e.next ca cd).2.value.le e.value = true))

/-- R266: with equal channels the widener returns its input at every finite width, for a finite non-zero sample whose
double does not overflow (a zero may lose its sign, assumption 30). -/
def Obligations.WidenerIsIdentityOnMono : Prop :=
  ∀ x w : F32, x.isFinite = true → (x.add x).isFinite = true → x.isZero = false → w.isFinite = true →
    widen w ⟨x, x⟩ = ⟨x, x⟩
end

