-- ==== Sys2Proof/Laws/Decode.lean ====
section
/-! SUPPORT. Laws/Decode.lean: the fields of a word made from fields (R100). -/

namespace Sys2Proof

variable (o a b c : BitVec 8) (imm : BitVec 32)

@[simp] theorem Word.opc_make : Word.opc (Word.make o a b c imm) = o := by
  refine BitVec.eq_of_getLsbD_eq fun i hi => ?_
  simp only [Word.opc, Word.make, BitVec.getLsbD_extractLsb', BitVec.getLsbD_append]
  interval_cases i <;> simp

@[simp] theorem Word.a_make : Word.a (Word.make o a b c imm) = a := by
  refine BitVec.eq_of_getLsbD_eq fun i hi => ?_
  simp only [Word.a, Word.make, BitVec.getLsbD_extractLsb', BitVec.getLsbD_append]
  interval_cases i <;> simp

@[simp] theorem Word.b_make : Word.b (Word.make o a b c imm) = b := by
  refine BitVec.eq_of_getLsbD_eq fun i hi => ?_
  simp only [Word.b, Word.make, BitVec.getLsbD_extractLsb', BitVec.getLsbD_append]
  interval_cases i <;> simp

@[simp] theorem Word.c_make : Word.c (Word.make o a b c imm) = c := by
  refine BitVec.eq_of_getLsbD_eq fun i hi => ?_
  simp only [Word.c, Word.make, BitVec.getLsbD_extractLsb', BitVec.getLsbD_append]
  interval_cases i <;> simp

@[simp] theorem Word.abc_make : Word.abc (Word.make o a b c imm) = a ++ b ++ c := by
  refine BitVec.eq_of_getLsbD_eq fun i hi => ?_
  simp only [Word.abc, Word.make, BitVec.getLsbD_extractLsb', BitVec.getLsbD_append]
  interval_cases i <;> simp

@[simp] theorem Word.imm_make : Word.imm (Word.make o a b c imm) = imm := by
  refine BitVec.eq_of_getLsbD_eq fun i hi => ?_
  simp only [Word.imm, Word.make, BitVec.getLsbD_extractLsb', BitVec.getLsbD_append]
  simp [hi]

@[simp] theorem Word.on_make : Word.on (Word.make o a b c imm) = c.getLsbD 0 := by
  simp only [Word.on, Word.make, BitVec.getLsbD_append]
  simp

/-- The bit of `on` in the field an encoder writes. -/
@[simp] theorem onField_bit (on : Bool) : (onField on).getLsbD 0 = on := by cases on <;> rfl

end Sys2Proof
end

