-- ==== Sys2Proof/Laws/Elementary.lean ====
section
/-! SUPPORT. Laws/Elementary.lean: the properties R11 names of the elementary functions, whatever their free parts. -/

namespace Sys2Proof.Machine

/-- A NaN operand gives a NaN. -/
theorem elementary_nan (x : F32) (h : x.isNaN = true) :
    EXP x = F32.nan ∧ EXP2 x = F32.nan ∧ SIN x = F32.nan ∧ COS x = F32.nan ∧ TANH x = F32.nan := by
  simp [EXP, EXP2, SIN, COS, TANH, h]

/-- The values R11 fixes. -/
theorem elementary_points :
    EXP F32.zero = F32.one ∧ EXP2 F32.zero = F32.one ∧ EXP2 F32.one = F32.two ∧ EXP2 F32.one.neg = F32.half ∧
      SIN F32.zero = F32.zero ∧ COS F32.zero = F32.one ∧ TANH F32.zero = F32.zero := by
  refine ⟨?_, ?_, ?_, ?_, ?_, ?_, ?_⟩ <;> decide

/-- The correction of `EXP2` is positive. -/
theorem positive_pos (y : F32) : F32.zero.lt (positive y) = true := by
  unfold positive
  split
  · assumption
  · decide

/-- The correction of `EXP` is in (0, 1]. -/
theorem positiveUnit_unit (y : F32) :
    F32.zero.lt (positiveUnit y) = true ∧ (positiveUnit y).le F32.one = true := by
  have hl : F32.zero.lt leastPositive = true ∧ leastPositive.le F32.one = true := by decide
  unfold positiveUnit
  split
  · refine ⟨positive_pos y, ?_⟩
    unfold positive
    split
    · assumption
    · exact hl.2
  · exact hl

/-- The correction of `SIN`, `COS` and `TANH` is in [-1, 1]. -/
theorem unitAbsOr_unit (d y : F32) (hd : d.abs.le F32.one = true) : (unitAbsOr d y).abs.le F32.one = true := by
  unfold unitAbsOr
  split <;> assumption

/-- `EXP` of a finite value with its sign bit set, that is of a negative value or `-0`, is in (0, 1]. -/
theorem EXP_unit (x : F32) (hf : x.isFinite = true) (hn : x.isNeg = true) :
    F32.zero.lt (EXP x) = true ∧ (EXP x).le F32.one = true := by
  have hnan : x.isNaN = false := by
    cases h : x.isNaN <;> simp_all [F32.isFinite]
  cases hz : x.isZero
  · simpa [EXP, hnan, hz, hf, hn] using positiveUnit_unit _
  · have : EXP x = F32.one := by simp [EXP, hnan, hz]
    rw [this]; decide

/-- `EXP2` of a finite value is positive. -/
theorem EXP2_pos (x : F32) (hf : x.isFinite = true) : F32.zero.lt (EXP2 x) = true := by
  have hnan : x.isNaN = false := by
    cases h : x.isNaN <;> simp_all [F32.isFinite]
  have h1 : F32.zero.lt F32.one = true ∧ F32.zero.lt F32.two = true ∧ F32.zero.lt F32.half = true := by decide
  unfold EXP2
  rw [hnan, hf]
  simp only [Bool.false_eq_true, if_false, if_true]
  split
  · exact h1.1
  · split
    · exact h1.2.1
    · split
      · exact h1.2.2
      · exact positive_pos _

/-- `COS` of a finite value is in [-1, 1]. -/
theorem COS_unit (x : F32) (hf : x.isFinite = true) : (COS x).abs.le F32.one = true := by
  have hnan : x.isNaN = false := by
    cases h : x.isNaN <;> simp_all [F32.isFinite]
  cases hz : x.isZero
  · simpa [COS, hnan, hz, hf] using unitAbsOr_unit _ _ (by decide)
  · have : COS x = F32.one := by simp [COS, hnan, hz]
    rw [this]; decide

/-! ## Oddness -/

/-- The pattern of a negation. -/
theorem F32.nat_neg (x : F32) : x.neg.nat = fmt32.neg x.nat := by
  have hx : x.nat < 2 ^ 32 := x.bits.isLt
  have hs : fmt32.signBit = 2147483648 := by decide
  have hm : fmt32.mag x.nat < 2147483648 := by
    unfold Fmt.mag; rw [hs]; exact Nat.mod_lt _ (by decide)
  simp only [F32.neg, F32.nat, F32.ofPattern, BitVec.toNat_ofNat]
  refine Nat.mod_eq_of_lt ?_
  change fmt32.neg x.nat < 2 ^ 32
  unfold Fmt.neg Fmt.pack
  rw [hs]
  split <;> omega

/-- A negation keeps the magnitude and turns the sign. -/
theorem Fmt.neg32 (n : Nat) (_ : n < 2 ^ 32) :
    fmt32.mag (fmt32.neg n) = fmt32.mag n ∧ fmt32.isNeg (fmt32.neg n) = !fmt32.isNeg n := by
  have hs : fmt32.signBit = 2147483648 := by decide
  unfold Fmt.neg Fmt.pack Fmt.isNeg Fmt.mag
  rw [hs]
  by_cases h : 2147483648 ≤ n <;> simp [h]
  all_goals omega

theorem F32.abs_neg (x : F32) : x.neg.abs = x.abs := by
  unfold F32.abs
  rw [F32.nat_neg, (Fmt.neg32 x.nat x.bits.isLt).1]

theorem F32.isNeg_neg (x : F32) : x.neg.isNeg = !x.isNeg := by
  unfold F32.isNeg
  rw [F32.nat_neg, (Fmt.neg32 x.nat x.bits.isLt).2]

theorem F32.isNaN_neg (x : F32) : x.neg.isNaN = x.isNaN := by
  unfold F32.isNaN Fmt.isNaN
  rw [F32.nat_neg, (Fmt.neg32 x.nat x.bits.isLt).1]

theorem F32.neg_neg (x : F32) : x.neg.neg = x := by
  have hx : x.nat < 2 ^ 32 := x.bits.isLt
  have hs : fmt32.signBit = 2147483648 := by decide
  have h : fmt32.neg (fmt32.neg x.nat) = x.nat := by
    unfold Fmt.neg Fmt.pack Fmt.isNeg Fmt.mag
    rw [hs]
    by_cases h : 2147483648 ≤ x.nat <;> simp [h]
    · split <;> omega
    · omega
  unfold F32.neg
  change F32.ofPattern (fmt32.neg x.neg.nat) = x
  rw [F32.nat_neg, h]
  simp [F32.ofPattern, F32.nat]

/-- A function built by oddness is odd. -/
theorem oddOf_neg (f : F32 → F32) (x : F32) : oddOf f x.neg = (oddOf f x).neg := by
  unfold oddOf
  rw [F32.isNeg_neg, F32.abs_neg]
  cases x.isNeg <;> simp [F32.neg_neg]

/-- `SIN` and `TANH` are odd (a NaN apart). -/
theorem SIN_TANH_odd (x : F32) (h : x.isNaN = false) : SIN x.neg = (SIN x).neg ∧ TANH x.neg = (TANH x).neg := by
  simp [SIN, TANH, F32.isNaN_neg, h, oddOf_neg]

end Sys2Proof.Machine
end

