-- ==== Sys2Proof/Laws/Float.lean ====
section
/-! SUPPORT. Laws/Float.lean: the rounding of Machine/Float.lean: it is exact on values of the format, and never passes
one. -/

namespace Sys2Proof

/-! ## The integer rounding -/

/-- A quotient rounded stays at or below an integer it does not exceed. -/
theorem roundDiv_le (num den r : Nat) (hd : 0 < den) (h : num ≤ r * den) : roundDiv num den ≤ r := by
  have hq := Nat.div_add_mod num den
  have hm := Nat.mod_lt num hd
  have hle : num / den ≤ r := by
    rw [Nat.div_le_iff_le_mul_add_pred hd]; rw [Nat.mul_comm] at h; omega
  unfold roundDiv
  split
  · next hc =>
    rcases Nat.lt_or_ge (num / den) r with hlt | hge
    · omega
    · exfalso
      have he : num / den = r := Nat.le_antisymm hle hge
      rw [he, Nat.mul_comm] at hq
      omega
  · exact hle

/-- A quotient rounded stays at or above an integer it reaches. -/
theorem le_roundDiv (num den r : Nat) (hd : 0 < den) (h : r * den ≤ num) : r ≤ roundDiv num den := by
  have := (Nat.le_div_iff_mul_le hd).2 h
  unfold roundDiv
  split <;> omega

/-! ## Magnitudes -/

/-- The exponent step of magnitude bits. -/
def Fmt.expOf (f : Fmt) (m : Nat) : Nat := m / 2 ^ f.mant - 1

/-- The significand of magnitude bits, in units of `2^expOf` smallest subnormals. -/
def Fmt.sigOf (f : Fmt) (m : Nat) : Nat := if m / 2 ^ f.mant = 0 then m else m % 2 ^ f.mant + 2 ^ f.mant

theorem Fmt.scaled_eq (f : Fmt) (m : Nat) : f.scaled m = f.sigOf m * 2 ^ f.expOf m := by
  unfold Fmt.scaled Fmt.sigOf Fmt.expOf
  split
  · next h => simp [h]
  · rfl

theorem Fmt.eq_expOf_sigOf (f : Fmt) (m : Nat) : m = f.expOf m * 2 ^ f.mant + f.sigOf m := by
  have hq := Nat.div_add_mod m (2 ^ f.mant)
  unfold Fmt.sigOf Fmt.expOf
  split
  · next h => simp [h]
  · next h =>
    obtain ⟨k, hk⟩ : ∃ k, m / 2 ^ f.mant = k + 1 := Nat.exists_eq_succ_of_ne_zero h
    rw [hk] at hq ⊢
    rw [Nat.mul_add, Nat.mul_one, Nat.mul_comm] at hq
    simp only [Nat.add_sub_cancel]
    omega

theorem Fmt.sigOf_lt (f : Fmt) (m : Nat) : f.sigOf m < 2 ^ (f.mant + 1) := by
  have h2 : 2 ^ (f.mant + 1) = 2 ^ f.mant + 2 ^ f.mant := by rw [Nat.pow_succ]; omega
  have hp : 0 < 2 ^ f.mant := Nat.two_pow_pos _
  unfold Fmt.sigOf
  split
  · next h =>
    have := (Nat.div_eq_zero_iff_lt hp).1 h
    omega
  · have := Nat.mod_lt m hp
    omega

theorem Fmt.le_sigOf (f : Fmt) (m : Nat) (h : 0 < f.expOf m) : 2 ^ f.mant ≤ f.sigOf m := by
  unfold Fmt.expOf at h
  unfold Fmt.sigOf
  split <;> omega

/-! ## Rounding -/

/-- The quotient lies below the power of two its exponent step reaches. -/
theorem Fmt.lt_of_shift (f : Fmt) (num den : Nat) (hd : 0 < den) :
    num < 2 ^ (f.mant + f.shift num den + 1) * den := by
  have h1 : num / den < 2 ^ (Nat.log2 (num / den) + 1) := Nat.lt_log2_self
  have h2 : Nat.log2 (num / den) + 1 ≤ f.mant + f.shift num den + 1 := by unfold Fmt.shift; omega
  have h3 := Nat.lt_of_lt_of_le h1 (Nat.pow_le_pow_right (by decide) h2)
  exact (Nat.div_lt_iff_lt_mul hd).1 h3

/-- With a positive exponent step the quotient reaches that power of two. -/
theorem Fmt.le_of_shift (f : Fmt) (num den : Nat) (hd : 0 < den) (h : 0 < f.shift num den) :
    2 ^ (f.mant + f.shift num den) * den ≤ num := by
  have hne : num / den ≠ 0 := by
    intro hc
    simp [Fmt.shift, hc] at h
  have h1 : 2 ^ Nat.log2 (num / den) ≤ num / den := Nat.log2_self_le hne
  have h2 : f.mant + f.shift num den = Nat.log2 (num / den) := by unfold Fmt.shift at h ⊢; omega
  rw [h2]
  exact (Nat.le_div_iff_mul_le hd).1 h1

/-- Rounding never passes a value of the format from below. -/
theorem Fmt.roundMag_le (f : Fmt) (num den m : Nat) (hd : 0 < den) (h : num ≤ f.scaled m * den) :
    f.roundMag num den ≤ m := by
  refine Nat.le_trans (Nat.min_le_left _ _) ?_
  have hp : 0 < 2 ^ f.mant := Nat.two_pow_pos _
  have hm := f.eq_expOf_sigOf m
  have hs := f.scaled_eq m
  have hlt := f.sigOf_lt m
  have hD : 0 < den * 2 ^ f.shift num den := Nat.mul_pos hd (Nat.two_pow_pos _)
  rcases Nat.lt_trichotomy (f.shift num den) (f.expOf m) with hc | hc | hc
  · have hr : roundDiv num (den * 2 ^ f.shift num den) ≤ 2 ^ (f.mant + 1) := by
      refine roundDiv_le _ _ _ hD ?_
      have := f.lt_of_shift num den hd
      have he : 2 ^ (f.mant + 1) * (den * 2 ^ f.shift num den) = 2 ^ (f.mant + f.shift num den + 1) * den := by
        rw [Nat.pow_add, Nat.pow_add, Nat.pow_add]; ring
      omega
    have hsig := f.le_sigOf m (by omega)
    have hmul : (f.shift num den + 1) * 2 ^ f.mant ≤ f.expOf m * 2 ^ f.mant := Nat.mul_le_mul_right _ hc
    have h2 : 2 ^ (f.mant + 1) = 2 ^ f.mant + 2 ^ f.mant := by rw [Nat.pow_succ]; omega
    rw [Nat.add_mul] at hmul
    omega
  · have hr : roundDiv num (den * 2 ^ f.shift num den) ≤ f.sigOf m := by
      refine roundDiv_le _ _ _ hD ?_
      rw [hs, ← hc] at h
      calc num ≤ f.sigOf m * 2 ^ f.shift num den * den := h
        _ = f.sigOf m * (den * 2 ^ f.shift num den) := by ring
    rw [hc] at hr ⊢
    omega
  · exfalso
    have h1 := f.le_of_shift num den hd (by omega)
    have h3 : f.scaled m < 2 ^ (f.mant + f.shift num den) := by
      rw [hs]
      calc f.sigOf m * 2 ^ f.expOf m < 2 ^ (f.mant + 1) * 2 ^ f.expOf m :=
            Nat.mul_lt_mul_of_pos_right hlt (Nat.two_pow_pos _)
        _ = 2 ^ (f.mant + 1 + f.expOf m) := (Nat.pow_add _ _ _).symm
        _ ≤ 2 ^ (f.mant + f.shift num den) := Nat.pow_le_pow_right (by decide) (by omega)
    have := Nat.mul_lt_mul_of_pos_right h3 hd
    omega

/-- Rounding never passes a value of the format from above. -/
theorem Fmt.le_roundMag (f : Fmt) (num den m : Nat) (hd : 0 < den) (hi : m ≤ f.infMag) (h : f.scaled m * den ≤ num) :
    m ≤ f.roundMag num den := by
  refine Nat.le_min.2 ⟨?_, hi⟩
  have hm := f.eq_expOf_sigOf m
  have hs := f.scaled_eq m
  have hlt := f.sigOf_lt m
  have hD : 0 < den * 2 ^ f.shift num den := Nat.mul_pos hd (Nat.two_pow_pos _)
  rcases Nat.lt_trichotomy (f.shift num den) (f.expOf m) with hc | hc | hc
  · exfalso
    have h1 := f.lt_of_shift num den hd
    have hsig := f.le_sigOf m (by omega)
    have h3 : 2 ^ (f.mant + f.shift num den + 1) ≤ f.scaled m := by
      rw [hs]
      calc 2 ^ (f.mant + f.shift num den + 1) ≤ 2 ^ (f.mant + f.expOf m) :=
            Nat.pow_le_pow_right (by decide) (by omega)
        _ = 2 ^ f.mant * 2 ^ f.expOf m := Nat.pow_add _ _ _
        _ ≤ f.sigOf m * 2 ^ f.expOf m := Nat.mul_le_mul_right _ hsig
    have := Nat.mul_le_mul_right den h3
    omega
  · have hr : f.sigOf m ≤ roundDiv num (den * 2 ^ f.shift num den) := by
      refine le_roundDiv _ _ _ hD ?_
      rw [hs, ← hc] at h
      calc f.sigOf m * (den * 2 ^ f.shift num den) = f.sigOf m * 2 ^ f.shift num den * den := by ring
        _ ≤ num := h
    rw [hc] at hr ⊢
    omega
  · have hr : 2 ^ f.mant ≤ roundDiv num (den * 2 ^ f.shift num den) := by
      refine le_roundDiv _ _ _ hD ?_
      calc 2 ^ f.mant * (den * 2 ^ f.shift num den) = 2 ^ (f.mant + f.shift num den) * den := by
            rw [Nat.pow_add]; ring
        _ ≤ num := f.le_of_shift num den hd (by omega)
    have hmul : (f.expOf m + 1) * 2 ^ f.mant ≤ f.shift num den * 2 ^ f.mant := Nat.mul_le_mul_right _ hc
    have h2 : 2 ^ (f.mant + 1) = 2 ^ f.mant + 2 ^ f.mant := by rw [Nat.pow_succ]; omega
    rw [Nat.add_mul] at hmul
    omega

/-- Rounding is exact on the format's own values. -/
theorem Fmt.roundMag_exact (f : Fmt) (m den : Nat) (hd : 0 < den) (hi : m ≤ f.infMag) :
    f.roundMag (f.scaled m * den) den = m :=
  Nat.le_antisymm (f.roundMag_le _ _ _ hd (Nat.le_refl _)) (f.le_roundMag _ _ _ hd hi (Nat.le_refl _))

/-- Magnitude bits stand in the order of their values. -/
theorem Fmt.scaled_le_iff (f : Fmt) (a b : Nat) (ha : a ≤ f.infMag) (hb : b ≤ f.infMag) :
    f.scaled a ≤ f.scaled b ↔ a ≤ b := by
  have key : ∀ a b : Nat, a ≤ f.infMag → b ≤ f.infMag → f.scaled a ≤ f.scaled b → a ≤ b := by
    intro a b ha _ h
    have := f.roundMag_le (f.scaled a * 1) 1 b (by decide) (by simpa using h)
    rwa [f.roundMag_exact a 1 (by decide) ha] at this
  constructor
  · exact key a b ha hb
  · intro h
    rcases Nat.le_total (f.scaled a) (f.scaled b) with hc | hc
    · exact hc
    · have : b = a := Nat.le_antisymm (key b a hb ha hc) h
      rw [this]

/-- A rounded magnitude is never past infinity. -/
theorem Fmt.roundMag_le_infMag (f : Fmt) (num den : Nat) : f.roundMag num den ≤ f.infMag := Nat.min_le_right _ _

/-! ## Patterns -/

/-- The pattern of a float made from a pattern that fits. -/
theorem F32.nat_ofPattern (n : Nat) (h : n < 2 ^ 32) : (F32.ofPattern n).nat = n := by
  simpa [F32.nat, F32.ofPattern] using h

/-- A float is the float of its pattern. -/
theorem F32.ofPattern_nat (x : F32) : F32.ofPattern x.nat = x := by
  simp [F32.nat, F32.ofPattern]

/-- The pattern of a binary64 made from a pattern that fits. -/
theorem F64.nat_ofPattern (n : Nat) (h : n < 2 ^ 64) : (F64.ofPattern n).nat = n := by
  simpa [F64.nat, F64.ofPattern] using h

end Sys2Proof
end

