-- ==== Sys2Proof/Laws/State.lean ====
section
/-! SUPPORT. Laws/State.lean: what each update of the state leaves in each field: one lemma per field per update. -/

namespace Sys2Proof.Machine

/-! `State.respond` -/
@[simp] theorem State.respond_cfg (s : State) (port : Port) (v : BitVec 32) : (s.respond port v).cfg = s.cfg := rfl
@[simp] theorem State.respond_inbox (s : State) (port : Port) (v : BitVec 32) : (s.respond port v).inbox = s.inbox :=
  rfl
@[simp] theorem State.respond_resps (s : State) (port : Port) (v : BitVec 32) : (s.respond port v).resps = (port, v) :: s.resps :=
  rfl
@[simp] theorem State.respond_out (s : State) (port : Port) (v : BitVec 32) : (s.respond port v).out = s.out := rfl
@[simp] theorem State.respond_g (s : State) (port : Port) (v : BitVec 32) : (s.respond port v).g = s.g := rfl
@[simp] theorem State.respond_pat (s : State) (port : Port) (v : BitVec 32) : (s.respond port v).pat = s.pat := rfl
@[simp] theorem State.respond_pt (s : State) (port : Port) (v : BitVec 32) : (s.respond port v).pt = s.pt := rfl
@[simp] theorem State.respond_p (s : State) (port : Port) (v : BitVec 32) : (s.respond port v).p = s.p := rfl
@[simp] theorem State.respond_q (s : State) (port : Port) (v : BitVec 32) : (s.respond port v).q = s.q := rfl
@[simp] theorem State.respond_t (s : State) (port : Port) (v : BitVec 32) : (s.respond port v).t = s.t := rfl
@[simp] theorem State.respond_k (s : State) (port : Port) (v : BitVec 32) : (s.respond port v).k = s.k := rfl
@[simp] theorem State.respond_sn (s : State) (port : Port) (v : BitVec 32) : (s.respond port v).sn = s.sn := rfl
@[simp] theorem State.respond_ht (s : State) (port : Port) (v : BitVec 32) : (s.respond port v).ht = s.ht := rfl
@[simp] theorem State.respond_fx (s : State) (port : Port) (v : BitVec 32) : (s.respond port v).fx = s.fx := rfl
@[simp] theorem State.respond_rv (s : State) (port : Port) (v : BitVec 32) : (s.respond port v).rv = s.rv := rfl
@[simp] theorem State.respond_ms (s : State) (port : Port) (v : BitVec 32) : (s.respond port v).ms = s.ms := rfl

/-! `State.ignore` -/
@[simp] theorem State.ignore_cfg (s : State) (port : Port) : (s.ignore port).cfg = s.cfg := rfl
@[simp] theorem State.ignore_inbox (s : State) (port : Port) : (s.ignore port).inbox = s.inbox := rfl
@[simp] theorem State.ignore_resps (s : State) (port : Port) : (s.ignore port).resps = (port, 0#32) :: s.resps := rfl
@[simp] theorem State.ignore_out (s : State) (port : Port) : (s.ignore port).out = s.out := rfl
@[simp] theorem State.ignore_g (s : State) (port : Port) : (s.ignore port).g = s.g := rfl
@[simp] theorem State.ignore_pat (s : State) (port : Port) : (s.ignore port).pat = s.pat := rfl
@[simp] theorem State.ignore_pt (s : State) (port : Port) : (s.ignore port).pt = s.pt := rfl
@[simp] theorem State.ignore_p (s : State) (port : Port) : (s.ignore port).p = s.p := rfl
@[simp] theorem State.ignore_q (s : State) (port : Port) : (s.ignore port).q = s.q := rfl
@[simp] theorem State.ignore_t (s : State) (port : Port) : (s.ignore port).t = s.t := rfl
@[simp] theorem State.ignore_k (s : State) (port : Port) : (s.ignore port).k = s.k := rfl
@[simp] theorem State.ignore_sn (s : State) (port : Port) : (s.ignore port).sn = s.sn := rfl
@[simp] theorem State.ignore_ht (s : State) (port : Port) : (s.ignore port).ht = s.ht := rfl
@[simp] theorem State.ignore_fx (s : State) (port : Port) : (s.ignore port).fx = s.fx := rfl
@[simp] theorem State.ignore_rv (s : State) (port : Port) : (s.ignore port).rv = s.rv := rfl
@[simp] theorem State.ignore_ms (s : State) (port : Port) : (s.ignore port).ms = s.ms := rfl

/-! `State.withRender` -/
@[simp] theorem State.withRender_cfg (s : State) (r : Option Render) : (s.withRender r).cfg = s.cfg := rfl
@[simp] theorem State.withRender_inbox (s : State) (r : Option Render) : (s.withRender r).inbox = s.inbox := rfl
@[simp] theorem State.withRender_resps (s : State) (r : Option Render) : (s.withRender r).resps = s.resps := rfl
@[simp] theorem State.withRender_out (s : State) (r : Option Render) : (s.withRender r).out = s.out := rfl
@[simp] theorem State.withRender_g (s : State) (r : Option Render) : (s.withRender r).g = { s.g with render := r } :=
  rfl
@[simp] theorem State.withRender_pat (s : State) (r : Option Render) : (s.withRender r).pat = s.pat := rfl
@[simp] theorem State.withRender_pt (s : State) (r : Option Render) : (s.withRender r).pt = s.pt := rfl
@[simp] theorem State.withRender_p (s : State) (r : Option Render) : (s.withRender r).p = s.p := rfl
@[simp] theorem State.withRender_q (s : State) (r : Option Render) : (s.withRender r).q = s.q := rfl
@[simp] theorem State.withRender_t (s : State) (r : Option Render) : (s.withRender r).t = s.t := rfl
@[simp] theorem State.withRender_k (s : State) (r : Option Render) : (s.withRender r).k = s.k := rfl
@[simp] theorem State.withRender_sn (s : State) (r : Option Render) : (s.withRender r).sn = s.sn := rfl
@[simp] theorem State.withRender_ht (s : State) (r : Option Render) : (s.withRender r).ht = s.ht := rfl
@[simp] theorem State.withRender_fx (s : State) (r : Option Render) : (s.withRender r).fx = s.fx := rfl
@[simp] theorem State.withRender_rv (s : State) (r : Option Render) : (s.withRender r).rv = s.rv := rfl
@[simp] theorem State.withRender_ms (s : State) (r : Option Render) : (s.withRender r).ms = s.ms := rfl

/-! `State.complete` -/
@[simp] theorem State.complete_cfg (s : State) : (s.complete).cfg = s.cfg := rfl
@[simp] theorem State.complete_inbox (s : State) : (s.complete).inbox = s.inbox := rfl
@[simp] theorem State.complete_resps (s : State) : (s.complete).resps = (.render, 0#32) :: s.resps := rfl
@[simp] theorem State.complete_out (s : State) : (s.complete).out = s.out := rfl
@[simp] theorem State.complete_g (s : State) : (s.complete).g = { s.g with render := none } := rfl
@[simp] theorem State.complete_pat (s : State) : (s.complete).pat = s.pat := rfl
@[simp] theorem State.complete_pt (s : State) : (s.complete).pt = s.pt := rfl
@[simp] theorem State.complete_p (s : State) : (s.complete).p = s.p := rfl
@[simp] theorem State.complete_q (s : State) : (s.complete).q = s.q := rfl
@[simp] theorem State.complete_t (s : State) : (s.complete).t = s.t := rfl
@[simp] theorem State.complete_k (s : State) : (s.complete).k = s.k := rfl
@[simp] theorem State.complete_sn (s : State) : (s.complete).sn = s.sn := rfl
@[simp] theorem State.complete_ht (s : State) : (s.complete).ht = s.ht := rfl
@[simp] theorem State.complete_fx (s : State) : (s.complete).fx = s.fx := rfl
@[simp] theorem State.complete_rv (s : State) : (s.complete).rv = s.rv := rfl
@[simp] theorem State.complete_ms (s : State) : (s.complete).ms = s.ms := rfl

/-! `State.accept` -/
@[simp] theorem State.accept_cfg (s : State) (nf : BitVec 32) (nc : BitVec 8) : (s.accept nf nc).cfg = s.cfg := rfl
@[simp] theorem State.accept_inbox (s : State) (nf : BitVec 32) (nc : BitVec 8) : (s.accept nf nc).inbox = s.inbox :=
  rfl
@[simp] theorem State.accept_resps (s : State) (nf : BitVec 32) (nc : BitVec 8) : (s.accept nf nc).resps = s.resps :=
  rfl
@[simp] theorem State.accept_out (s : State) (nf : BitVec 32) (nc : BitVec 8) : (s.accept nf nc).out = ⟨0, []⟩ := rfl
@[simp] theorem State.accept_g (s : State) (nf : BitVec 32) (nc : BitVec 8) : (s.accept nf nc).g = { s.g with render := some ⟨.drain, s.cfg.snapOrder, 0#32, frameCount nf, nc⟩ } :=
  rfl
@[simp] theorem State.accept_pat (s : State) (nf : BitVec 32) (nc : BitVec 8) : (s.accept nf nc).pat = s.pat := rfl
@[simp] theorem State.accept_pt (s : State) (nf : BitVec 32) (nc : BitVec 8) : (s.accept nf nc).pt = s.pt := rfl
@[simp] theorem State.accept_p (s : State) (nf : BitVec 32) (nc : BitVec 8) : (s.accept nf nc).p = s.p := rfl
@[simp] theorem State.accept_q (s : State) (nf : BitVec 32) (nc : BitVec 8) : (s.accept nf nc).q = s.q := rfl
@[simp] theorem State.accept_t (s : State) (nf : BitVec 32) (nc : BitVec 8) : (s.accept nf nc).t = s.t := rfl
@[simp] theorem State.accept_k (s : State) (nf : BitVec 32) (nc : BitVec 8) : (s.accept nf nc).k = s.k := rfl
@[simp] theorem State.accept_sn (s : State) (nf : BitVec 32) (nc : BitVec 8) : (s.accept nf nc).sn = s.sn := rfl
@[simp] theorem State.accept_ht (s : State) (nf : BitVec 32) (nc : BitVec 8) : (s.accept nf nc).ht = s.ht := rfl
@[simp] theorem State.accept_fx (s : State) (nf : BitVec 32) (nc : BitVec 8) : (s.accept nf nc).fx = s.fx := rfl
@[simp] theorem State.accept_rv (s : State) (nf : BitVec 32) (nc : BitVec 8) : (s.accept nf nc).rv = s.rv := rfl
@[simp] theorem State.accept_ms (s : State) (nf : BitVec 32) (nc : BitVec 8) : (s.accept nf nc).ms = s.ms := rfl

/-! `State.writeZeros` -/
@[simp] theorem State.writeZeros_cfg (s : State) (nf : BitVec 32) (nc : BitVec 8) : (s.writeZeros nf nc).cfg = s.cfg :=
  rfl
@[simp] theorem State.writeZeros_inbox (s : State) (nf : BitVec 32) (nc : BitVec 8) : (s.writeZeros nf nc).inbox = s.inbox :=
  rfl
@[simp] theorem State.writeZeros_resps (s : State) (nf : BitVec 32) (nc : BitVec 8) : (s.writeZeros nf nc).resps = s.resps :=
  rfl
@[simp] theorem State.writeZeros_out (s : State) (nf : BitVec 32) (nc : BitVec 8) : (s.writeZeros nf nc).out = ⟨(frameCount nf).toNat * nc.toNat, []⟩ :=
  rfl
@[simp] theorem State.writeZeros_g (s : State) (nf : BitVec 32) (nc : BitVec 8) : (s.writeZeros nf nc).g = s.g := rfl
@[simp] theorem State.writeZeros_pat (s : State) (nf : BitVec 32) (nc : BitVec 8) : (s.writeZeros nf nc).pat = s.pat :=
  rfl
@[simp] theorem State.writeZeros_pt (s : State) (nf : BitVec 32) (nc : BitVec 8) : (s.writeZeros nf nc).pt = s.pt :=
  rfl
@[simp] theorem State.writeZeros_p (s : State) (nf : BitVec 32) (nc : BitVec 8) : (s.writeZeros nf nc).p = s.p := rfl
@[simp] theorem State.writeZeros_q (s : State) (nf : BitVec 32) (nc : BitVec 8) : (s.writeZeros nf nc).q = s.q := rfl
@[simp] theorem State.writeZeros_t (s : State) (nf : BitVec 32) (nc : BitVec 8) : (s.writeZeros nf nc).t = s.t := rfl
@[simp] theorem State.writeZeros_k (s : State) (nf : BitVec 32) (nc : BitVec 8) : (s.writeZeros nf nc).k = s.k := rfl
@[simp] theorem State.writeZeros_sn (s : State) (nf : BitVec 32) (nc : BitVec 8) : (s.writeZeros nf nc).sn = s.sn :=
  rfl
@[simp] theorem State.writeZeros_ht (s : State) (nf : BitVec 32) (nc : BitVec 8) : (s.writeZeros nf nc).ht = s.ht :=
  rfl
@[simp] theorem State.writeZeros_fx (s : State) (nf : BitVec 32) (nc : BitVec 8) : (s.writeZeros nf nc).fx = s.fx :=
  rfl
@[simp] theorem State.writeZeros_rv (s : State) (nf : BitVec 32) (nc : BitVec 8) : (s.writeZeros nf nc).rv = s.rv :=
  rfl
@[simp] theorem State.writeZeros_ms (s : State) (nf : BitVec 32) (nc : BitVec 8) : (s.writeZeros nf nc).ms = s.ms :=
  rfl

/-! `State.copyCell` -/
@[simp] theorem State.copyCell_cfg (s : State) (i : Nat) : (s.copyCell i).cfg = s.cfg := rfl
@[simp] theorem State.copyCell_inbox (s : State) (i : Nat) : (s.copyCell i).inbox = s.inbox := rfl
@[simp] theorem State.copyCell_resps (s : State) (i : Nat) : (s.copyCell i).resps = s.resps := rfl
@[simp] theorem State.copyCell_out (s : State) (i : Nat) : (s.copyCell i).out = s.out := rfl
@[simp] theorem State.copyCell_g (s : State) (i : Nat) : (s.copyCell i).g = s.g := rfl
@[simp] theorem State.copyCell_pat (s : State) (i : Nat) : (s.copyCell i).pat = s.pat := rfl
@[simp] theorem State.copyCell_pt (s : State) (i : Nat) : (s.copyCell i).pt = s.pt := rfl
@[simp] theorem State.copyCell_p (s : State) (i : Nat) : (s.copyCell i).p = 
    Store.put (ptReset s.cfg i) s.p i (s.ptAt i) :=
  rfl
@[simp] theorem State.copyCell_q (s : State) (i : Nat) : (s.copyCell i).q = s.q := rfl
@[simp] theorem State.copyCell_t (s : State) (i : Nat) : (s.copyCell i).t = s.t := rfl
@[simp] theorem State.copyCell_k (s : State) (i : Nat) : (s.copyCell i).k = s.k := rfl
@[simp] theorem State.copyCell_sn (s : State) (i : Nat) : (s.copyCell i).sn = s.sn := rfl
@[simp] theorem State.copyCell_ht (s : State) (i : Nat) : (s.copyCell i).ht = s.ht := rfl
@[simp] theorem State.copyCell_fx (s : State) (i : Nat) : (s.copyCell i).fx = s.fx := rfl
@[simp] theorem State.copyCell_rv (s : State) (i : Nat) : (s.copyCell i).rv = s.rv := rfl
@[simp] theorem State.copyCell_ms (s : State) (i : Nat) : (s.copyCell i).ms = s.ms := rfl

/-! `State.writeFrame` -/
@[simp] theorem State.writeFrame_cfg (s : State) (n nc : Nat) (o : LR F32) : (s.writeFrame n nc o).cfg = s.cfg := rfl
@[simp] theorem State.writeFrame_inbox (s : State) (n nc : Nat) (o : LR F32) : (s.writeFrame n nc o).inbox = s.inbox :=
  rfl
@[simp] theorem State.writeFrame_resps (s : State) (n nc : Nat) (o : LR F32) : (s.writeFrame n nc o).resps = s.resps :=
  rfl
@[simp] theorem State.writeFrame_out (s : State) (n nc : Nat) (o : LR F32) : (s.writeFrame n nc o).out = s.out.writeAll (n * nc) (frameElems nc o) :=
  rfl
@[simp] theorem State.writeFrame_g (s : State) (n nc : Nat) (o : LR F32) : (s.writeFrame n nc o).g = s.g := rfl
@[simp] theorem State.writeFrame_pat (s : State) (n nc : Nat) (o : LR F32) : (s.writeFrame n nc o).pat = s.pat := rfl
@[simp] theorem State.writeFrame_pt (s : State) (n nc : Nat) (o : LR F32) : (s.writeFrame n nc o).pt = s.pt := rfl
@[simp] theorem State.writeFrame_p (s : State) (n nc : Nat) (o : LR F32) : (s.writeFrame n nc o).p = s.p := rfl
@[simp] theorem State.writeFrame_q (s : State) (n nc : Nat) (o : LR F32) : (s.writeFrame n nc o).q = s.q := rfl
@[simp] theorem State.writeFrame_t (s : State) (n nc : Nat) (o : LR F32) : (s.writeFrame n nc o).t = s.t := rfl
@[simp] theorem State.writeFrame_k (s : State) (n nc : Nat) (o : LR F32) : (s.writeFrame n nc o).k = s.k := rfl
@[simp] theorem State.writeFrame_sn (s : State) (n nc : Nat) (o : LR F32) : (s.writeFrame n nc o).sn = s.sn := rfl
@[simp] theorem State.writeFrame_ht (s : State) (n nc : Nat) (o : LR F32) : (s.writeFrame n nc o).ht = s.ht := rfl
@[simp] theorem State.writeFrame_fx (s : State) (n nc : Nat) (o : LR F32) : (s.writeFrame n nc o).fx = s.fx := rfl
@[simp] theorem State.writeFrame_rv (s : State) (n nc : Nat) (o : LR F32) : (s.writeFrame n nc o).rv = s.rv := rfl
@[simp] theorem State.writeFrame_ms (s : State) (n nc : Nat) (o : LR F32) : (s.writeFrame n nc o).ms = s.ms := rfl

/-! `State.setPlaying` -/
@[simp] theorem State.setPlaying_cfg (s : State) (on : Bool) : (s.setPlaying on).cfg = s.cfg := rfl
@[simp] theorem State.setPlaying_inbox (s : State) (on : Bool) : (s.setPlaying on).inbox = s.inbox := rfl
@[simp] theorem State.setPlaying_resps (s : State) (on : Bool) : (s.setPlaying on).resps = s.resps := rfl
@[simp] theorem State.setPlaying_out (s : State) (on : Bool) : (s.setPlaying on).out = s.out := rfl
@[simp] theorem State.setPlaying_g (s : State) (on : Bool) : (s.setPlaying on).g = s.g := rfl
@[simp] theorem State.setPlaying_pat (s : State) (on : Bool) : (s.setPlaying on).pat = s.pat := rfl
@[simp] theorem State.setPlaying_pt (s : State) (on : Bool) : (s.setPlaying on).pt = s.pt := rfl
@[simp] theorem State.setPlaying_p (s : State) (on : Bool) : (s.setPlaying on).p = s.p := rfl
@[simp] theorem State.setPlaying_q (s : State) (on : Bool) : (s.setPlaying on).q = s.q := rfl
@[simp] theorem State.setPlaying_t (s : State) (on : Bool) : (s.setPlaying on).t = { s.t with playing := on } := rfl
@[simp] theorem State.setPlaying_k (s : State) (on : Bool) : (s.setPlaying on).k = s.k := rfl
@[simp] theorem State.setPlaying_sn (s : State) (on : Bool) : (s.setPlaying on).sn = s.sn := rfl
@[simp] theorem State.setPlaying_ht (s : State) (on : Bool) : (s.setPlaying on).ht = s.ht := rfl
@[simp] theorem State.setPlaying_fx (s : State) (on : Bool) : (s.setPlaying on).fx = s.fx := rfl
@[simp] theorem State.setPlaying_rv (s : State) (on : Bool) : (s.setPlaying on).rv = s.rv := rfl
@[simp] theorem State.setPlaying_ms (s : State) (on : Bool) : (s.setPlaying on).ms = s.ms := rfl

/-! `State.putPat` -/
@[simp] theorem State.putPat_cfg (s : State) (lane step : Nat) (e : PatStep) : (s.putPat lane step e).cfg = s.cfg :=
  rfl
@[simp] theorem State.putPat_inbox (s : State) (lane step : Nat) (e : PatStep) : (s.putPat lane step e).inbox = s.inbox :=
  rfl
@[simp] theorem State.putPat_resps (s : State) (lane step : Nat) (e : PatStep) : (s.putPat lane step e).resps = s.resps :=
  rfl
@[simp] theorem State.putPat_out (s : State) (lane step : Nat) (e : PatStep) : (s.putPat lane step e).out = s.out :=
  rfl
@[simp] theorem State.putPat_g (s : State) (lane step : Nat) (e : PatStep) : (s.putPat lane step e).g = s.g := rfl
@[simp] theorem State.putPat_pat (s : State) (lane step : Nat) (e : PatStep) : (s.putPat lane step e).pat = Store.put PatStep.clear s.pat (patIndex lane step) e :=
  rfl
@[simp] theorem State.putPat_pt (s : State) (lane step : Nat) (e : PatStep) : (s.putPat lane step e).pt = s.pt := rfl
@[simp] theorem State.putPat_p (s : State) (lane step : Nat) (e : PatStep) : (s.putPat lane step e).p = s.p := rfl
@[simp] theorem State.putPat_q (s : State) (lane step : Nat) (e : PatStep) : (s.putPat lane step e).q = s.q := rfl
@[simp] theorem State.putPat_t (s : State) (lane step : Nat) (e : PatStep) : (s.putPat lane step e).t = s.t := rfl
@[simp] theorem State.putPat_k (s : State) (lane step : Nat) (e : PatStep) : (s.putPat lane step e).k = s.k := rfl
@[simp] theorem State.putPat_sn (s : State) (lane step : Nat) (e : PatStep) : (s.putPat lane step e).sn = s.sn := rfl
@[simp] theorem State.putPat_ht (s : State) (lane step : Nat) (e : PatStep) : (s.putPat lane step e).ht = s.ht := rfl
@[simp] theorem State.putPat_fx (s : State) (lane step : Nat) (e : PatStep) : (s.putPat lane step e).fx = s.fx := rfl
@[simp] theorem State.putPat_rv (s : State) (lane step : Nat) (e : PatStep) : (s.putPat lane step e).rv = s.rv := rfl
@[simp] theorem State.putPat_ms (s : State) (lane step : Nat) (e : PatStep) : (s.putPat lane step e).ms = s.ms := rfl

/-! `State.clearPattern` -/
@[simp] theorem State.clearPattern_cfg (s : State) : (s.clearPattern).cfg = s.cfg := rfl
@[simp] theorem State.clearPattern_inbox (s : State) : (s.clearPattern).inbox = s.inbox := rfl
@[simp] theorem State.clearPattern_resps (s : State) : (s.clearPattern).resps = s.resps := rfl
@[simp] theorem State.clearPattern_out (s : State) : (s.clearPattern).out = s.out := rfl
@[simp] theorem State.clearPattern_g (s : State) : (s.clearPattern).g = s.g := rfl
@[simp] theorem State.clearPattern_pat (s : State) : (s.clearPattern).pat = [] := rfl
@[simp] theorem State.clearPattern_pt (s : State) : (s.clearPattern).pt = s.pt := rfl
@[simp] theorem State.clearPattern_p (s : State) : (s.clearPattern).p = s.p := rfl
@[simp] theorem State.clearPattern_q (s : State) : (s.clearPattern).q = s.q := rfl
@[simp] theorem State.clearPattern_t (s : State) : (s.clearPattern).t = s.t := rfl
@[simp] theorem State.clearPattern_k (s : State) : (s.clearPattern).k = s.k := rfl
@[simp] theorem State.clearPattern_sn (s : State) : (s.clearPattern).sn = s.sn := rfl
@[simp] theorem State.clearPattern_ht (s : State) : (s.clearPattern).ht = s.ht := rfl
@[simp] theorem State.clearPattern_fx (s : State) : (s.clearPattern).fx = s.fx := rfl
@[simp] theorem State.clearPattern_rv (s : State) : (s.clearPattern).rv = s.rv := rfl
@[simp] theorem State.clearPattern_ms (s : State) : (s.clearPattern).ms = s.ms := rfl

/-! `State.resetSound` -/
@[simp] theorem State.resetSound_cfg (s : State) : (s.resetSound).cfg = s.cfg := rfl
@[simp] theorem State.resetSound_inbox (s : State) : (s.resetSound).inbox = s.inbox := rfl
@[simp] theorem State.resetSound_resps (s : State) : (s.resetSound).resps = s.resps := rfl
@[simp] theorem State.resetSound_out (s : State) : (s.resetSound).out = s.out := rfl
@[simp] theorem State.resetSound_g (s : State) : (s.resetSound).g = s.g := rfl
@[simp] theorem State.resetSound_pat (s : State) : (s.resetSound).pat = s.pat := rfl
@[simp] theorem State.resetSound_pt (s : State) : (s.resetSound).pt = s.pt := rfl
@[simp] theorem State.resetSound_p (s : State) : (s.resetSound).p = s.p := rfl
@[simp] theorem State.resetSound_q (s : State) : (s.resetSound).q = s.q := rfl
@[simp] theorem State.resetSound_t (s : State) : (s.resetSound).t = s.t := rfl
@[simp] theorem State.resetSound_k (s : State) : (s.resetSound).k = Kick.reset s.cfg := rfl
@[simp] theorem State.resetSound_sn (s : State) : (s.resetSound).sn = Snare.reset s.cfg := rfl
@[simp] theorem State.resetSound_ht (s : State) : (s.resetSound).ht = Hat.reset s.cfg := rfl
@[simp] theorem State.resetSound_fx (s : State) : (s.resetSound).fx = FX.reset := rfl
@[simp] theorem State.resetSound_rv (s : State) : (s.resetSound).rv = Reverb.reset := rfl
@[simp] theorem State.resetSound_ms (s : State) : (s.resetSound).ms = Master.reset := rfl

/-! `State.resetPosition` -/
@[simp] theorem State.resetPosition_cfg (s : State) : (s.resetPosition).cfg = s.cfg := rfl
@[simp] theorem State.resetPosition_inbox (s : State) : (s.resetPosition).inbox = s.inbox := rfl
@[simp] theorem State.resetPosition_resps (s : State) : (s.resetPosition).resps = s.resps := rfl
@[simp] theorem State.resetPosition_out (s : State) : (s.resetPosition).out = s.out := rfl
@[simp] theorem State.resetPosition_g (s : State) : (s.resetPosition).g = s.g := rfl
@[simp] theorem State.resetPosition_pat (s : State) : (s.resetPosition).pat = s.pat := rfl
@[simp] theorem State.resetPosition_pt (s : State) : (s.resetPosition).pt = s.pt := rfl
@[simp] theorem State.resetPosition_p (s : State) : (s.resetPosition).p = s.p := rfl
@[simp] theorem State.resetPosition_q (s : State) : (s.resetPosition).q = s.q := rfl
@[simp] theorem State.resetPosition_t (s : State) : (s.resetPosition).t = { s.t with stepIndex := 0#4, currentFrame := 0#64, nextStepFrame := F64.zero } :=
  rfl
@[simp] theorem State.resetPosition_k (s : State) : (s.resetPosition).k = Kick.reset s.cfg := rfl
@[simp] theorem State.resetPosition_sn (s : State) : (s.resetPosition).sn = Snare.reset s.cfg := rfl
@[simp] theorem State.resetPosition_ht (s : State) : (s.resetPosition).ht = Hat.reset s.cfg := rfl
@[simp] theorem State.resetPosition_fx (s : State) : (s.resetPosition).fx = FX.reset := rfl
@[simp] theorem State.resetPosition_rv (s : State) : (s.resetPosition).rv = Reverb.reset := rfl
@[simp] theorem State.resetPosition_ms (s : State) : (s.resetPosition).ms = Master.reset := rfl

/-! `State.prepare` -/
@[simp] theorem State.prepare_cfg (s : State) (sr : F32) (mb : BitVec 24) : (s.prepare sr mb).cfg = s.cfg := rfl
@[simp] theorem State.prepare_inbox (s : State) (sr : F32) (mb : BitVec 24) : (s.prepare sr mb).inbox = s.inbox := rfl
@[simp] theorem State.prepare_resps (s : State) (sr : F32) (mb : BitVec 24) : (s.prepare sr mb).resps = s.resps := rfl
@[simp] theorem State.prepare_out (s : State) (sr : F32) (mb : BitVec 24) : (s.prepare sr mb).out = s.out := rfl
@[simp] theorem State.prepare_g (s : State) (sr : F32) (mb : BitVec 24) : (s.prepare sr mb).g = ⟨true, sr, mb.setWidth 32, none⟩ :=
  rfl
@[simp] theorem State.prepare_pat (s : State) (sr : F32) (mb : BitVec 24) : (s.prepare sr mb).pat = [] := rfl
@[simp] theorem State.prepare_pt (s : State) (sr : F32) (mb : BitVec 24) : (s.prepare sr mb).pt = [] := rfl
@[simp] theorem State.prepare_p (s : State) (sr : F32) (mb : BitVec 24) : (s.prepare sr mb).p = [] := rfl
@[simp] theorem State.prepare_q (s : State) (sr : F32) (mb : BitVec 24) : (s.prepare sr mb).q = [] := rfl
@[simp] theorem State.prepare_t (s : State) (sr : F32) (mb : BitVec 24) : (s.prepare sr mb).t = Transport.prepared :=
  rfl
@[simp] theorem State.prepare_k (s : State) (sr : F32) (mb : BitVec 24) : (s.prepare sr mb).k = Kick.reset s.cfg :=
  rfl
@[simp] theorem State.prepare_sn (s : State) (sr : F32) (mb : BitVec 24) : (s.prepare sr mb).sn = Snare.reset s.cfg :=
  rfl
@[simp] theorem State.prepare_ht (s : State) (sr : F32) (mb : BitVec 24) : (s.prepare sr mb).ht = Hat.reset s.cfg :=
  rfl
@[simp] theorem State.prepare_fx (s : State) (sr : F32) (mb : BitVec 24) : (s.prepare sr mb).fx = FX.reset := rfl
@[simp] theorem State.prepare_rv (s : State) (sr : F32) (mb : BitVec 24) : (s.prepare sr mb).rv = Reverb.reset := rfl
@[simp] theorem State.prepare_ms (s : State) (sr : F32) (mb : BitVec 24) : (s.prepare sr mb).ms = Master.reset := rfl

/-! `State.setBpm`: the fields it leaves alone -/
@[simp] theorem State.setBpm_cfg (s : State) (bpm : F32) : (s.setBpm bpm).cfg = s.cfg :=
  by unfold State.setBpm; split <;> rfl
@[simp] theorem State.setBpm_inbox (s : State) (bpm : F32) : (s.setBpm bpm).inbox = s.inbox :=
  by unfold State.setBpm; split <;> rfl
@[simp] theorem State.setBpm_resps (s : State) (bpm : F32) : (s.setBpm bpm).resps = s.resps :=
  by unfold State.setBpm; split <;> rfl
@[simp] theorem State.setBpm_out (s : State) (bpm : F32) : (s.setBpm bpm).out = s.out :=
  by unfold State.setBpm; split <;> rfl
@[simp] theorem State.setBpm_g (s : State) (bpm : F32) : (s.setBpm bpm).g = s.g :=
  by unfold State.setBpm; split <;> rfl
@[simp] theorem State.setBpm_pat (s : State) (bpm : F32) : (s.setBpm bpm).pat = s.pat :=
  by unfold State.setBpm; split <;> rfl
@[simp] theorem State.setBpm_pt (s : State) (bpm : F32) : (s.setBpm bpm).pt = s.pt :=
  by unfold State.setBpm; split <;> rfl
@[simp] theorem State.setBpm_p (s : State) (bpm : F32) : (s.setBpm bpm).p = s.p :=
  by unfold State.setBpm; split <;> rfl
@[simp] theorem State.setBpm_q (s : State) (bpm : F32) : (s.setBpm bpm).q = s.q :=
  by unfold State.setBpm; split <;> rfl
@[simp] theorem State.setBpm_k (s : State) (bpm : F32) : (s.setBpm bpm).k = s.k :=
  by unfold State.setBpm; split <;> rfl
@[simp] theorem State.setBpm_sn (s : State) (bpm : F32) : (s.setBpm bpm).sn = s.sn :=
  by unfold State.setBpm; split <;> rfl
@[simp] theorem State.setBpm_ht (s : State) (bpm : F32) : (s.setBpm bpm).ht = s.ht :=
  by unfold State.setBpm; split <;> rfl
@[simp] theorem State.setBpm_fx (s : State) (bpm : F32) : (s.setBpm bpm).fx = s.fx :=
  by unfold State.setBpm; split <;> rfl
@[simp] theorem State.setBpm_rv (s : State) (bpm : F32) : (s.setBpm bpm).rv = s.rv :=
  by unfold State.setBpm; split <;> rfl
@[simp] theorem State.setBpm_ms (s : State) (bpm : F32) : (s.setBpm bpm).ms = s.ms :=
  by unfold State.setBpm; split <;> rfl

/-! `State.setStep`: the fields it leaves alone -/
@[simp] theorem State.setStep_cfg (s : State) (lane step : BitVec 8) (on : Bool) (v : F32) : (s.setStep lane step on v).cfg = s.cfg :=
  by unfold State.setStep; split <;> rfl
@[simp] theorem State.setStep_inbox (s : State) (lane step : BitVec 8) (on : Bool) (v : F32) : (s.setStep lane step on v).inbox = s.inbox :=
  by unfold State.setStep; split <;> rfl
@[simp] theorem State.setStep_resps (s : State) (lane step : BitVec 8) (on : Bool) (v : F32) : (s.setStep lane step on v).resps = s.resps :=
  by unfold State.setStep; split <;> rfl
@[simp] theorem State.setStep_out (s : State) (lane step : BitVec 8) (on : Bool) (v : F32) : (s.setStep lane step on v).out = s.out :=
  by unfold State.setStep; split <;> rfl
@[simp] theorem State.setStep_g (s : State) (lane step : BitVec 8) (on : Bool) (v : F32) : (s.setStep lane step on v).g = s.g :=
  by unfold State.setStep; split <;> rfl
@[simp] theorem State.setStep_pt (s : State) (lane step : BitVec 8) (on : Bool) (v : F32) : (s.setStep lane step on v).pt = s.pt :=
  by unfold State.setStep; split <;> rfl
@[simp] theorem State.setStep_p (s : State) (lane step : BitVec 8) (on : Bool) (v : F32) : (s.setStep lane step on v).p = s.p :=
  by unfold State.setStep; split <;> rfl
@[simp] theorem State.setStep_q (s : State) (lane step : BitVec 8) (on : Bool) (v : F32) : (s.setStep lane step on v).q = s.q :=
  by unfold State.setStep; split <;> rfl
@[simp] theorem State.setStep_t (s : State) (lane step : BitVec 8) (on : Bool) (v : F32) : (s.setStep lane step on v).t = s.t :=
  by unfold State.setStep; split <;> rfl
@[simp] theorem State.setStep_k (s : State) (lane step : BitVec 8) (on : Bool) (v : F32) : (s.setStep lane step on v).k = s.k :=
  by unfold State.setStep; split <;> rfl
@[simp] theorem State.setStep_sn (s : State) (lane step : BitVec 8) (on : Bool) (v : F32) : (s.setStep lane step on v).sn = s.sn :=
  by unfold State.setStep; split <;> rfl
@[simp] theorem State.setStep_ht (s : State) (lane step : BitVec 8) (on : Bool) (v : F32) : (s.setStep lane step on v).ht = s.ht :=
  by unfold State.setStep; split <;> rfl
@[simp] theorem State.setStep_fx (s : State) (lane step : BitVec 8) (on : Bool) (v : F32) : (s.setStep lane step on v).fx = s.fx :=
  by unfold State.setStep; split <;> rfl
@[simp] theorem State.setStep_rv (s : State) (lane step : BitVec 8) (on : Bool) (v : F32) : (s.setStep lane step on v).rv = s.rv :=
  by unfold State.setStep; split <;> rfl
@[simp] theorem State.setStep_ms (s : State) (lane step : BitVec 8) (on : Bool) (v : F32) : (s.setStep lane step on v).ms = s.ms :=
  by unfold State.setStep; split <;> rfl

/-! `State.setParam`: the fields it leaves alone -/
@[simp] theorem State.setParam_cfg (s : State) (index : BitVec 8) (v : F32) : (s.setParam index v).cfg = s.cfg :=
  by unfold State.setParam; split <;> rfl
@[simp] theorem State.setParam_inbox (s : State) (index : BitVec 8) (v : F32) : (s.setParam index v).inbox = s.inbox :=
  by unfold State.setParam; split <;> rfl
@[simp] theorem State.setParam_resps (s : State) (index : BitVec 8) (v : F32) : (s.setParam index v).resps = s.resps :=
  by unfold State.setParam; split <;> rfl
@[simp] theorem State.setParam_out (s : State) (index : BitVec 8) (v : F32) : (s.setParam index v).out = s.out :=
  by unfold State.setParam; split <;> rfl
@[simp] theorem State.setParam_g (s : State) (index : BitVec 8) (v : F32) : (s.setParam index v).g = s.g :=
  by unfold State.setParam; split <;> rfl
@[simp] theorem State.setParam_pat (s : State) (index : BitVec 8) (v : F32) : (s.setParam index v).pat = s.pat :=
  by unfold State.setParam; split <;> rfl
@[simp] theorem State.setParam_p (s : State) (index : BitVec 8) (v : F32) : (s.setParam index v).p = s.p :=
  by unfold State.setParam; split <;> rfl
@[simp] theorem State.setParam_q (s : State) (index : BitVec 8) (v : F32) : (s.setParam index v).q = s.q :=
  by unfold State.setParam; split <;> rfl
@[simp] theorem State.setParam_t (s : State) (index : BitVec 8) (v : F32) : (s.setParam index v).t = s.t :=
  by unfold State.setParam; split <;> rfl
@[simp] theorem State.setParam_k (s : State) (index : BitVec 8) (v : F32) : (s.setParam index v).k = s.k :=
  by unfold State.setParam; split <;> rfl
@[simp] theorem State.setParam_sn (s : State) (index : BitVec 8) (v : F32) : (s.setParam index v).sn = s.sn :=
  by unfold State.setParam; split <;> rfl
@[simp] theorem State.setParam_ht (s : State) (index : BitVec 8) (v : F32) : (s.setParam index v).ht = s.ht :=
  by unfold State.setParam; split <;> rfl
@[simp] theorem State.setParam_fx (s : State) (index : BitVec 8) (v : F32) : (s.setParam index v).fx = s.fx :=
  by unfold State.setParam; split <;> rfl
@[simp] theorem State.setParam_rv (s : State) (index : BitVec 8) (v : F32) : (s.setParam index v).rv = s.rv :=
  by unfold State.setParam; split <;> rfl
@[simp] theorem State.setParam_ms (s : State) (index : BitVec 8) (v : F32) : (s.setParam index v).ms = s.ms :=
  by unfold State.setParam; split <;> rfl

/-! `State.toggleStep`: the fields it leaves alone -/
@[simp] theorem State.toggleStep_cfg (s : State) (lane step : BitVec 8) (on : Bool) : (s.toggleStep lane step on).cfg = s.cfg :=
  by unfold State.toggleStep; split <;> rfl
@[simp] theorem State.toggleStep_inbox (s : State) (lane step : BitVec 8) (on : Bool) : (s.toggleStep lane step on).inbox = s.inbox :=
  by unfold State.toggleStep; split <;> rfl
@[simp] theorem State.toggleStep_resps (s : State) (lane step : BitVec 8) (on : Bool) : (s.toggleStep lane step on).resps = s.resps :=
  by unfold State.toggleStep; split <;> rfl
@[simp] theorem State.toggleStep_out (s : State) (lane step : BitVec 8) (on : Bool) : (s.toggleStep lane step on).out = s.out :=
  by unfold State.toggleStep; split <;> rfl
@[simp] theorem State.toggleStep_g (s : State) (lane step : BitVec 8) (on : Bool) : (s.toggleStep lane step on).g = s.g :=
  by unfold State.toggleStep; split <;> rfl
@[simp] theorem State.toggleStep_pt (s : State) (lane step : BitVec 8) (on : Bool) : (s.toggleStep lane step on).pt = s.pt :=
  by unfold State.toggleStep; split <;> rfl
@[simp] theorem State.toggleStep_p (s : State) (lane step : BitVec 8) (on : Bool) : (s.toggleStep lane step on).p = s.p :=
  by unfold State.toggleStep; split <;> rfl
@[simp] theorem State.toggleStep_q (s : State) (lane step : BitVec 8) (on : Bool) : (s.toggleStep lane step on).q = s.q :=
  by unfold State.toggleStep; split <;> rfl
@[simp] theorem State.toggleStep_t (s : State) (lane step : BitVec 8) (on : Bool) : (s.toggleStep lane step on).t = s.t :=
  by unfold State.toggleStep; split <;> rfl
@[simp] theorem State.toggleStep_k (s : State) (lane step : BitVec 8) (on : Bool) : (s.toggleStep lane step on).k = s.k :=
  by unfold State.toggleStep; split <;> rfl
@[simp] theorem State.toggleStep_sn (s : State) (lane step : BitVec 8) (on : Bool) : (s.toggleStep lane step on).sn = s.sn :=
  by unfold State.toggleStep; split <;> rfl
@[simp] theorem State.toggleStep_ht (s : State) (lane step : BitVec 8) (on : Bool) : (s.toggleStep lane step on).ht = s.ht :=
  by unfold State.toggleStep; split <;> rfl
@[simp] theorem State.toggleStep_fx (s : State) (lane step : BitVec 8) (on : Bool) : (s.toggleStep lane step on).fx = s.fx :=
  by unfold State.toggleStep; split <;> rfl
@[simp] theorem State.toggleStep_rv (s : State) (lane step : BitVec 8) (on : Bool) : (s.toggleStep lane step on).rv = s.rv :=
  by unfold State.toggleStep; split <;> rfl
@[simp] theorem State.toggleStep_ms (s : State) (lane step : BitVec 8) (on : Bool) : (s.toggleStep lane step on).ms = s.ms :=
  by unfold State.toggleStep; split <;> rfl

/-! `State.push`: the fields it leaves alone -/
@[simp] theorem State.push_cfg (s : State) (w : W64) : (s.push w).cfg = s.cfg := by unfold State.push; split <;> rfl
@[simp] theorem State.push_inbox (s : State) (w : W64) : (s.push w).inbox = s.inbox :=
  by unfold State.push; split <;> rfl
@[simp] theorem State.push_out (s : State) (w : W64) : (s.push w).out = s.out := by unfold State.push; split <;> rfl
@[simp] theorem State.push_g (s : State) (w : W64) : (s.push w).g = s.g := by unfold State.push; split <;> rfl
@[simp] theorem State.push_pat (s : State) (w : W64) : (s.push w).pat = s.pat := by unfold State.push; split <;> rfl
@[simp] theorem State.push_pt (s : State) (w : W64) : (s.push w).pt = s.pt := by unfold State.push; split <;> rfl
@[simp] theorem State.push_p (s : State) (w : W64) : (s.push w).p = s.p := by unfold State.push; split <;> rfl
@[simp] theorem State.push_t (s : State) (w : W64) : (s.push w).t = s.t := by unfold State.push; split <;> rfl
@[simp] theorem State.push_k (s : State) (w : W64) : (s.push w).k = s.k := by unfold State.push; split <;> rfl
@[simp] theorem State.push_sn (s : State) (w : W64) : (s.push w).sn = s.sn := by unfold State.push; split <;> rfl
@[simp] theorem State.push_ht (s : State) (w : W64) : (s.push w).ht = s.ht := by unfold State.push; split <;> rfl
@[simp] theorem State.push_fx (s : State) (w : W64) : (s.push w).fx = s.fx := by unfold State.push; split <;> rfl
@[simp] theorem State.push_rv (s : State) (w : W64) : (s.push w).rv = s.rv := by unfold State.push; split <;> rfl
@[simp] theorem State.push_ms (s : State) (w : W64) : (s.push w).ms = s.ms := by unfold State.push; split <;> rfl

/-! `triggerStep`: the fields it leaves alone -/
@[simp] theorem triggerStep_cfg (s : State) (st : Nat) : (triggerStep st s).cfg = s.cfg := rfl
@[simp] theorem triggerStep_inbox (s : State) (st : Nat) : (triggerStep st s).inbox = s.inbox := rfl
@[simp] theorem triggerStep_resps (s : State) (st : Nat) : (triggerStep st s).resps = s.resps := rfl
@[simp] theorem triggerStep_out (s : State) (st : Nat) : (triggerStep st s).out = s.out := rfl
@[simp] theorem triggerStep_g (s : State) (st : Nat) : (triggerStep st s).g = s.g := rfl
@[simp] theorem triggerStep_pat (s : State) (st : Nat) : (triggerStep st s).pat = s.pat := rfl
@[simp] theorem triggerStep_pt (s : State) (st : Nat) : (triggerStep st s).pt = s.pt := rfl
@[simp] theorem triggerStep_p (s : State) (st : Nat) : (triggerStep st s).p = s.p := rfl
@[simp] theorem triggerStep_q (s : State) (st : Nat) : (triggerStep st s).q = s.q := rfl
@[simp] theorem triggerStep_t (s : State) (st : Nat) : (triggerStep st s).t = s.t := rfl
@[simp] theorem triggerStep_rv (s : State) (st : Nat) : (triggerStep st s).rv = s.rv := rfl
@[simp] theorem triggerStep_ms (s : State) (st : Nat) : (triggerStep st s).ms = s.ms := rfl

/-! `transportStep`: the fields it leaves alone -/
@[simp] theorem transportStep_cfg (s : State) : (transportStep s).cfg = s.cfg :=
  by unfold transportStep; split <;> rfl
@[simp] theorem transportStep_inbox (s : State) : (transportStep s).inbox = s.inbox :=
  by unfold transportStep; split <;> rfl
@[simp] theorem transportStep_resps (s : State) : (transportStep s).resps = s.resps :=
  by unfold transportStep; split <;> rfl
@[simp] theorem transportStep_out (s : State) : (transportStep s).out = s.out :=
  by unfold transportStep; split <;> rfl
@[simp] theorem transportStep_g (s : State) : (transportStep s).g = s.g := by unfold transportStep; split <;> rfl
@[simp] theorem transportStep_pat (s : State) : (transportStep s).pat = s.pat :=
  by unfold transportStep; split <;> rfl
@[simp] theorem transportStep_pt (s : State) : (transportStep s).pt = s.pt := by unfold transportStep; split <;> rfl
@[simp] theorem transportStep_p (s : State) : (transportStep s).p = s.p := by unfold transportStep; split <;> rfl
@[simp] theorem transportStep_q (s : State) : (transportStep s).q = s.q := by unfold transportStep; split <;> rfl
@[simp] theorem transportStep_rv (s : State) : (transportStep s).rv = s.rv := by unfold transportStep; split <;> rfl
@[simp] theorem transportStep_ms (s : State) : (transportStep s).ms = s.ms := by unfold transportStep; split <;> rfl

/-! `soundStep`: the fields it leaves alone -/
@[simp] theorem soundStep_cfg (s : State) : ((soundStep s).2).cfg = s.cfg := rfl
@[simp] theorem soundStep_inbox (s : State) : ((soundStep s).2).inbox = s.inbox := rfl
@[simp] theorem soundStep_resps (s : State) : ((soundStep s).2).resps = s.resps := rfl
@[simp] theorem soundStep_out (s : State) : ((soundStep s).2).out = s.out := rfl
@[simp] theorem soundStep_g (s : State) : ((soundStep s).2).g = s.g := rfl
@[simp] theorem soundStep_pat (s : State) : ((soundStep s).2).pat = s.pat := rfl
@[simp] theorem soundStep_pt (s : State) : ((soundStep s).2).pt = s.pt := rfl
@[simp] theorem soundStep_p (s : State) : ((soundStep s).2).p = s.p := rfl
@[simp] theorem soundStep_q (s : State) : ((soundStep s).2).q = s.q := rfl
@[simp] theorem soundStep_t (s : State) : ((soundStep s).2).t = s.t := rfl

/-! `tick`: the fields it leaves alone -/
@[simp] theorem tick_cfg (s : State) : ((tick s).2).cfg = s.cfg := by simp only [tick]; split <;> simp
@[simp] theorem tick_inbox (s : State) : ((tick s).2).inbox = s.inbox := by simp only [tick]; split <;> simp
@[simp] theorem tick_resps (s : State) : ((tick s).2).resps = s.resps := by simp only [tick]; split <;> simp
@[simp] theorem tick_out (s : State) : ((tick s).2).out = s.out := by simp only [tick]; split <;> simp
@[simp] theorem tick_g (s : State) : ((tick s).2).g = s.g := by simp only [tick]; split <;> simp
@[simp] theorem tick_pat (s : State) : ((tick s).2).pat = s.pat := by simp only [tick]; split <;> simp
@[simp] theorem tick_pt (s : State) : ((tick s).2).pt = s.pt := by simp only [tick]; split <;> simp
@[simp] theorem tick_p (s : State) : ((tick s).2).p = s.p := by simp only [tick]; split <;> simp
@[simp] theorem tick_q (s : State) : ((tick s).2).q = s.q := by simp only [tick]; split <;> simp

/-! Reads that follow the spaces -/
theorem State.ptAt_eq (s : State) (i : Nat) : s.ptAt i = Store.get (ptReset s.cfg i) s.pt i := rfl
theorem State.par_eq (s : State) (i : Nat) : s.par i = Store.get (ptReset s.cfg i) s.p i := rfl
theorem State.patAt_eq (s : State) (lane step : Nat) :
    s.patAt lane step = Store.get PatStep.clear s.pat (patIndex lane step) := rfl

end Sys2Proof.Machine
end

