-- ==== Sys2Proof/Laws/Store.lean ====
section
/-! SUPPORT. Laws/Store.lean: the laws of element-indexed spaces: a read after a write gives the value written, a write
leaves every other index alone, and a write keeps the canonical form. -/

namespace Sys2Proof.Machine

@[simp] theorem Store.get_nil {α : Type} (d : α) (i : Nat) : Store.get d [] i = d := rfl

/-- An index below every listed one is unlisted. -/
theorem Store.get_of_rising {α : Type} (d : α) (m : Store α) (lo i : Nat) (hm : Store.rising lo m = true) (h : i < lo) :
    Store.get d m i = d := by
  induction m generalizing lo with
  | nil => rfl
  | cons e m ih =>
    obtain ⟨j, w⟩ := e
    simp only [Store.rising, Bool.and_eq_true, decide_eq_true_eq] at hm
    have hj : ¬ j = i := by omega
    simp only [Store.get, hj, if_false]
    exact ih _ hm.2 (by omega)

/-- A lower bound of a rising space can be lowered. -/
theorem Store.rising_mono {α : Type} (m : Store α) (lo lo' : Nat) (hm : Store.rising lo m = true) (h : lo' ≤ lo) :
    Store.rising lo' m = true := by
  cases m with
  | nil => rfl
  | cons e m =>
    obtain ⟨j, w⟩ := e
    simp only [Store.rising, Bool.and_eq_true, decide_eq_true_eq] at hm ⊢
    exact ⟨by omega, hm.2⟩

variable {α : Type} [DecidableEq α]

@[simp] theorem Store.wf_nil (d : Nat → α) : Store.wf d [] = true := rfl

/-- A write leaves every other index as it was, whatever the space. -/
theorem Store.get_put_ne (d e : α) (m : Store α) (i j : Nat) (v : α) (h : j ≠ i) :
    Store.get e (Store.put d m i v) j = Store.get e m j := by
  have h' : ¬ i = j := fun hc => h hc.symm
  fun_induction Store.put d m i v <;> simp_all [Store.get]

/-- A write keeps the indices strictly rising. -/
theorem Store.rising_put (d : α) (m : Store α) (lo i : Nat) (v : α) (hm : Store.rising lo m = true) (h : lo ≤ i) :
    Store.rising lo (Store.put d m i v) = true := by
  induction m generalizing lo with
  | nil => simp only [Store.put]; split <;> simp [Store.rising, h]
  | cons e m ih =>
    obtain ⟨j, w⟩ := e
    simp only [Store.rising, Bool.and_eq_true, decide_eq_true_eq] at hm
    simp only [Store.put]
    split
    · split <;> simp [Store.rising, *]
    · split
      · split
        · exact Store.rising_mono m _ _ hm.2 (by omega)
        · subst_vars; simp [Store.rising, hm]
      · simp only [Store.rising, Bool.and_eq_true, decide_eq_true_eq]
        exact ⟨hm.1, ih _ hm.2 (by omega)⟩

/-- A read after a write to the same index gives the value written, in a space whose indices rise. -/
theorem Store.get_put_same_of_rising (d : α) (m : Store α) (lo i : Nat) (v : α) (hm : Store.rising lo m = true) :
    Store.get d (Store.put d m i v) i = v := by
  induction m generalizing lo with
  | nil => simp only [Store.put]; split <;> simp_all [Store.get]
  | cons e m ih =>
    obtain ⟨j, w⟩ := e
    simp only [Store.rising, Bool.and_eq_true, decide_eq_true_eq] at hm
    simp only [Store.put]
    split
    · rename_i hij
      split
      · rename_i hv
        subst hv
        have : ¬ j = i := by omega
        simp only [Store.get, this, if_false]
        exact Store.get_of_rising v m _ _ hm.2 (by omega)
      · simp [Store.get]
    · split
      · rename_i hij
        subst hij
        split
        · rename_i hv
          subst hv
          exact Store.get_of_rising v m _ _ hm.2 (by omega)
        · simp [Store.get]
      · rename_i hij
        have : ¬ j = i := fun hc => hij hc.symm
        simp only [Store.get, this, if_false]
        exact ih _ hm.2

/-- A read after a write to the same index gives the value written. -/
theorem Store.get_put_same (d : Nat → α) (m : Store α) (i : Nat) (v : α) (hm : Store.wf d m = true) :
    Store.get (d i) (Store.put (d i) m i v) i = v := by
  simp only [Store.wf, Bool.and_eq_true] at hm
  exact Store.get_put_same_of_rising (d i) m 0 i v hm.1

/-- What a written space lists: the pair written, or a pair it listed before. -/
theorem Store.mem_put (d : α) (m : Store α) (i : Nat) (v : α) (e : Nat × α) (h : e ∈ Store.put d m i v) :
    (e = (i, v) ∧ v ≠ d) ∨ e ∈ m := by
  induction m with
  | nil => simp only [Store.put] at h; split at h <;> simp_all
  | cons e' m ih =>
    obtain ⟨j, w⟩ := e'
    simp only [Store.put] at h
    split at h
    · split at h
      · exact .inr h
      · rename_i hv
        rcases List.mem_cons.1 h with h | h
        · exact .inl ⟨h, hv⟩
        · exact .inr h
    · split at h
      · split at h
        · exact .inr (List.mem_cons_of_mem _ h)
        · rename_i hv
          rcases List.mem_cons.1 h with h | h
          · exact .inl ⟨h, hv⟩
          · exact .inr (List.mem_cons_of_mem _ h)
      · rcases List.mem_cons.1 h with h | h
        · exact .inr (by simp [h])
        · rcases ih h with h | h
          · exact .inl h
          · exact .inr (List.mem_cons_of_mem _ h)

/-- A write keeps the canonical form. -/
theorem Store.wf_put (d : Nat → α) (m : Store α) (i : Nat) (v : α) (hm : Store.wf d m = true) :
    Store.wf d (Store.put (d i) m i v) = true := by
  simp only [Store.wf, Bool.and_eq_true, List.all_eq_true, decide_eq_true_eq] at hm ⊢
  refine ⟨Store.rising_put (d i) m 0 i v hm.1 (Nat.zero_le _), fun e he => ?_⟩
  rcases Store.mem_put (d i) m i v e he with ⟨rfl, hv⟩ | h
  · exact hv
  · exact hm.2 e h

/-- Every index a written space lists is the one written or one it listed. -/
theorem Store.all_put (d : α) (m : Store α) (i : Nat) (v : α) (P : Nat × α → Bool) (hm : m.all P = true)
    (h : P (i, v) = true) : (Store.put d m i v).all P = true := by
  simp only [List.all_eq_true] at hm ⊢
  intro e he
  rcases Store.mem_put d m i v e he with ⟨rfl, _⟩ | he
  · exact h
  · exact hm e he

end Sys2Proof.Machine
end

