-- ==== Sys2Proof/Laws/Ops.lean ====
section
/-! SUPPORT. Laws/Ops.lean: for each shared operation, one lemma that says everything it can do. -/

namespace Sys2Proof.Machine

/-! ## Setters and responses -/

/-- A CTRL effect happens with its response, or the word is ignored. -/
theorem State.control_cases (s : State) (f : State → State) (v : BitVec 32) :
    (s.g.prepared = true ∧ s.control f v = (f s).respond .ctrl v) ∨
      (s.g.prepared = false ∧ s.control f v = s.ignore .ctrl) := by
  unfold State.control
  cases h : s.g.prepared <;> simp

/-- A tempo write: nothing for a NaN, else `T.bpm` alone. -/
theorem State.setBpm_cases (s : State) (bpm : F32) :
    (bpm.isNaN = true ∧ s.setBpm bpm = s) ∨
      (bpm.isNaN = false ∧ s.setBpm bpm = { s with t := { s.t with bpm := clampBpm bpm } }) := by
  unfold State.setBpm
  cases h : bpm.isNaN <;> simp

/-- A step write: nothing for a bad lane, a bad step or a NaN, else one whole element. -/
theorem State.setStep_cases (s : State) (lane step : BitVec 8) (on : Bool) (v : F32) :
    ((3 ≤ lane.toNat ∨ 16 ≤ step.toNat ∨ v.isNaN = true) ∧ s.setStep lane step on v = s) ∨
      ((lane.toNat < 3 ∧ step.toNat < 16 ∧ v.isNaN = false) ∧
        s.setStep lane step on v = s.putPat lane.toNat step.toNat ⟨on, clampVelocity v⟩) := by
  unfold State.setStep stepExists
  by_cases hl : lane.toNat < 3 <;> by_cases hs : step.toNat < 16 <;> cases hv : v.isNaN <;> simp [hl, hs] <;> omega

/-- A parameter write: nothing for a bad index or a NaN, else the clamped value in one cell of `PT`. -/
theorem State.setParam_cases (s : State) (index : BitVec 8) (v : F32) :
    ((s.cfg.nparam ≤ index.toNat ∨ v.isNaN = true) ∧ s.setParam index v = s) ∨
      ((index.toNat < s.cfg.nparam ∧ v.isNaN = false) ∧ s.setParam index v =
        { s with
          pt := Store.put (ptReset s.cfg index.toNat) s.pt index.toNat (clampParam s.cfg index.toNat v) }) := by
  unfold State.setParam
  by_cases hi : index.toNat < s.cfg.nparam <;> cases hv : v.isNaN <;> simp [hi]
  all_goals omega

/-- The upper end of a parameter's range: 0 without a range, the range's own end where it has no bound or is below it,
else the bound. -/
theorem ptMax_cases (c : Cfg) (i : Nat) :
    (c.ptRanges[i]? = none ∧ ptMax c i = F32.zero) ∨
      ∃ r, c.ptRanges[i]? = some r ∧
        ((ptMax c i = r.max ∧ ∀ m, ptCap c i = some m → r.max.lt m = true) ∨
          ∃ m, ptCap c i = some m ∧ r.max.lt m = false ∧ ptMax c i = m) := by
  unfold ptMax
  cases hr : c.ptRanges[i]? with
  | none => simp
  | some r =>
    cases hm : ptCap c i with
    | none => simp
    | some m => cases hl : r.max.lt m <;> simp [F32.min, hl]

/-- A queued toggle: nothing for a bad lane or step, else `on` alone in one element. -/
theorem State.toggleStep_cases (s : State) (lane step : BitVec 8) (on : Bool) :
    ((3 ≤ lane.toNat ∨ 16 ≤ step.toNat) ∧ s.toggleStep lane step on = s) ∨
      ((lane.toNat < 3 ∧ step.toNat < 16) ∧ s.toggleStep lane step on =
        s.putPat lane.toNat step.toNat ⟨on, (s.patAt lane.toNat step.toNat).velocity⟩) := by
  unfold State.toggleStep stepExists
  by_cases hl : lane.toNat < 3 <;> by_cases hs : step.toNat < 16 <;> simp [hl, hs] <;> omega

/-- A push appends and answers 1, or drops and answers 0. -/
theorem State.push_cases (s : State) (w : W64) :
    ((s.g.prepared = true ∧ s.q.length ≠ s.cfg.cmdqDepth) ∧
        s.push w = { s with q := s.q ++ [w] }.respond .cmd 1#32) ∨
      ((s.g.prepared = false ∨ s.q.length = s.cfg.cmdqDepth) ∧ s.push w = s.ignore .cmd) := by
  unfold State.push
  by_cases h : s.q.length = s.cfg.cmdqDepth <;> cases hp : s.g.prepared <;> simp [h]

/-- A clamp to `[lo, hi]`: the low end, the high end, or the value. -/
theorem clampTo_cases (lo hi v : F32) :
    clampTo lo hi v = lo ∨ clampTo lo hi v = hi ∨ (v.lt lo = false ∧ v.gt hi = false ∧ clampTo lo hi v = v) := by
  unfold clampTo
  by_cases h1 : v.lt lo = true <;> simp only [h1, if_true, if_false, Bool.false_eq_true]
  · by_cases h2 : lo.gt hi = true <;> simp [h2]
  · by_cases h2 : v.gt hi = true <;> simp_all

/-- `PAT[lane][step]` stands at its own index. -/
theorem patIndex_inj {l l' st st' : Nat} (h : st < 16) (h' : st' < 16) (he : patIndex l st = patIndex l' st') :
    l = l' ∧ st = st' := by
  unfold patIndex at he; omega

/-- An element of `PAT` after one was written: the new one there, the old ones elsewhere. -/
theorem State.patAt_putPat (s : State) (lane step l st : Nat) (e : PatStep) (hs : step < 16) (hst : st < 16)
    (hm : Store.wf (fun _ => PatStep.clear) s.pat = true) :
    (s.putPat lane step e).patAt l st = if l = lane ∧ st = step then e else s.patAt l st := by
  by_cases h : l = lane ∧ st = step
  · obtain ⟨rfl, rfl⟩ := h
    simpa [State.patAt] using Store.get_put_same (fun _ => PatStep.clear) s.pat (patIndex l st) e hm
  · simp only [State.patAt, State.putPat_pat, h, if_false]
    exact Store.get_put_ne _ _ _ _ _ _ (fun hc => h (patIndex_inj hst hs hc))

/-! ## `OUT` -/

@[simp] theorem OutBuf.write_len (o : OutBuf) (i : Nat) (v : F32) : (o.write i v).len = max o.len (i + 1) := rfl

/-- A frame's elements make the buffer reach past the last of them. -/
theorem OutBuf.writeAll_len (o : OutBuf) (i : Nat) (vs : List F32) :
    (o.writeAll i vs).len = if vs = [] then o.len else max o.len (i + vs.length) := by
  induction vs generalizing o i with
  | nil => rfl
  | cons v vs ih =>
    simp only [OutBuf.writeAll, ih, OutBuf.write_len, List.length_cons]
    split
    · subst_vars; simp
    · simp; omega

/-- How many elements one frame has. -/
theorem frameElems_length (nc : Nat) (o : LR F32) : (frameElems nc o).length = nc := by
  unfold frameElems
  split
  · simp_all
  · split
    · simp_all
    · simp; omega

/-! ## The position and the ticks -/

/-- One tick on the transport record. -/
theorem tick_transport (s : State) : (tick s).2.t = s.t.tick s.g.sr := by
  unfold tick Transport.tick
  cases hp : s.t.playing <;> cases hd : s.t.due <;> simp [soundStep, transportStep, hp, hd]

/-- What `TransportStep` does: nothing, or the step's triggers and the firing. -/
theorem transportStep_cases (s : State) :
    ((s.t.playing = false ∨ s.t.due = false) ∧ transportStep s = s) ∨
      ((s.t.playing = true ∧ s.t.due = true) ∧
        transportStep s = { triggerStep s.t.stepIndex.toNat s with t := s.t.fire s.g.sr }) := by
  unfold transportStep
  cases hp : s.t.playing <;> cases hd : s.t.due <;> simp

/-! ## Micro-steps -/

/-- One drained word: a command's effect, or nothing but its removal. -/
theorem drainStep_cases (r : Render) (s : State) :
    (s.q = [] ∧ drainStep r s = .next (s.withRender (some { r with phase := .snap }))) ∨
      ∃ w rest, s.q = w :: rest ∧
        ((∃ lane step on, decode w = .ok (.cmdToggleStep lane step on) ∧
            drainStep r s = .next ({ s with q := rest }.toggleStep lane step on)) ∨
          (∃ bpm, decode w = .ok (.cmdSetBpm bpm) ∧ drainStep r s = .next ({ s with q := rest }.setBpm bpm)) ∨
          (∃ on, decode w = .ok (.cmdSetPlaying on) ∧ drainStep r s = .next ({ s with q := rest }.setPlaying on)) ∨
          ((∀ i, decode w = .ok i → i.port ≠ .cmd) ∧ drainStep r s = .next { s with q := rest })) := by
  unfold drainStep
  split
  · next h => exact .inl ⟨h, rfl⟩
  · next w rest h =>
    refine .inr ⟨w, rest, h, ?_⟩
    cases hd : decode w with
    | error e => simp
    | ok i =>
      cases i
      case cmdToggleStep lane step on => exact .inl ⟨lane, step, on, rfl, rfl⟩
      case cmdSetBpm bpm => exact .inr (.inl ⟨bpm, rfl, rfl⟩)
      case cmdSetPlaying on => exact .inr (.inr (.inl ⟨on, rfl, rfl⟩))
      all_goals exact .inr (.inr (.inr ⟨by rintro _ ⟨⟩; simp [Instr.port], rfl⟩))

/-- One snapshot step: the next cell copied, and the render's next stage. -/
theorem snapStep_cases (r : Render) (s : State) :
    (r.snapLeft = [] ∧ snapStep r s = afterSnapshot r s) ∨
      (∃ i, r.snapLeft = [i] ∧ snapStep r s = afterSnapshot r (s.copyCell i)) ∨
      ∃ i j rest, r.snapLeft = i :: j :: rest ∧
        snapStep r s = (s.copyCell i).withRender (some { r with snapLeft := j :: rest }) := by
  unfold snapStep
  split
  · next h => exact .inl ⟨h, rfl⟩
  · next i h => exact .inr (.inl ⟨i, h, rfl⟩)
  · next i rest hne h =>
    cases rest with
    | nil => simp at hne
    | cons j rest => exact .inr (.inr ⟨i, j, rest, h, rfl⟩)

/-- The engine's step is one of: nothing in flight, a drain step, a snapshot step, a tick step. -/
theorem engineStep_cases (s : State) :
    (s.g.render = none ∧ engineStep s = .next s) ∨
      (∃ r, s.g.render = some r ∧ r.phase = .drain ∧ engineStep s = drainStep r s) ∨
      (∃ r, s.g.render = some r ∧ r.phase = .snap ∧ engineStep s = .next (snapStep r s)) ∨
      ∃ r, s.g.render = some r ∧ r.phase = .tick ∧ engineStep s = .next (tickStep r s) := by
  unfold engineStep
  cases h : s.g.render with
  | none => simp
  | some r => cases hp : r.phase <;> simp [hp]

/-- A step is the engine's, with the inbox's head one micro-step nearer, or takes the inbox's head. -/
theorem step_cases (s : State) :
    (s.inbox = [] ∧ step s = engineStep s) ∨
      (∃ x rest, s.inbox = x :: rest ∧ takesNow x s = false ∧
        step s = engineStep { s with inbox := { x with arrival := x.arrival.sooner } :: rest }) ∨
      ∃ x rest, s.inbox = x :: rest ∧ takesNow x s = true ∧ step s = present x { s with inbox := rest } := by
  unfold step
  split
  · next h => exact .inl ⟨h, rfl⟩
  · next x rest h =>
    cases ht : takesNow x s with
    | true => exact .inr (.inr ⟨x, rest, h, ht, by simp⟩)
    | false => exact .inr (.inl ⟨x, rest, h, ht, by simp⟩)

/-- A word taken: a push, an operation of its own port, or an ignored word. -/
theorem present_cases (x : Presented) (s : State) :
    (x.port = .cmd ∧ present x s = .next (s.push x.word)) ∨
      (∃ i, x.port ≠ .cmd ∧ decode x.word = .ok i ∧ i.port = x.port ∧ present x s = exec i s) ∨
      (x.port ≠ .cmd ∧ (∀ i, decode x.word = .ok i → i.port ≠ x.port) ∧ present x s = .next (s.ignore x.port)) := by
  unfold present portInstr
  cases hd : decode x.word with
  | error e => cases hp : x.port <;> simp
  | ok i =>
    by_cases hi : i.port = x.port
    · cases hp : x.port <;> simp_all
    · cases hp : x.port <;> simp_all

end Sys2Proof.Machine
end

