-- ==== Sys2Proof/Laws/Memory.lean ====
section
/-! SUPPORT. Laws/Memory.lean: every operation over a space keeps the canonical form, and the machine at power-on has
it. -/

namespace Sys2Proof.Machine

/-! ## Delay lines -/

/-- A push keeps a line's buffer canonical. -/
theorem Delay.wf_push (n : Nat) (d : Delay) (v : F32) (h : Delay.wf d = true) : Delay.wf (d.push n v) = true :=
  Store.wf_put (fun _ => F32.zero) d.buf d.idx v h

/-- An allpass step keeps its line canonical. -/
theorem Allpass.wf_step (n : Nat) (a : Delay) (x g : F32) (h : Delay.wf a = true) :
    Delay.wf (Allpass.step n a x g).2 = true :=
  Delay.wf_push n a _ h

/-- A comb step keeps its line canonical. -/
theorem Comb.wf_step (n : Nat) (cb : Comb) (x fb damp : F32) (h : Comb.wf cb = true) :
    Comb.wf (Comb.step n cb x fb damp).2 = true :=
  Delay.wf_push n cb.line _ h

/-- A push keeps the cursor and every listed element inside the line. -/
theorem Delay.inside_push (n : Nat) (d : Delay) (v : F32) (hn : 1 ≤ n) (h : Delay.inside n d = true) :
    Delay.inside n (d.push n v) = true := by
  simp only [Delay.inside, Bool.and_eq_true, decide_eq_true_eq] at h ⊢
  exact ⟨Nat.mod_lt _ hn, Store.all_put _ _ _ _ _ h.2 (by simpa using h.1)⟩

/-- What a push leaves at the cursor it wrote. -/
theorem Delay.get_push_same (n : Nat) (d : Delay) (v : F32) (h : Delay.wf d = true) :
    Store.get F32.zero (d.push n v).buf d.idx = v :=
  Store.get_put_same (fun _ => F32.zero) d.buf d.idx v h

/-- A push leaves every other element of the line as it was. -/
theorem Delay.get_push_ne (n : Nat) (d : Delay) (v : F32) (i : Nat) (h : i ≠ d.idx) :
    Store.get F32.zero (d.push n v).buf i = Store.get F32.zero d.buf i :=
  Store.get_put_ne _ _ _ _ _ _ h

/-! ## The pattern, the parameters, `OUT` -/

/-- A pattern write keeps the pattern canonical. -/
theorem State.wf_putPat (s : State) (lane step : Nat) (e : PatStep)
    (h : Store.wf (fun _ => PatStep.clear) s.pat = true) :
    Store.wf (fun _ => PatStep.clear) (s.putPat lane step e).pat = true :=
  Store.wf_put (fun _ => PatStep.clear) s.pat _ e h

/-- A parameter write keeps the table canonical. -/
theorem State.wf_setParam (s : State) (index : BitVec 8) (v : F32) (h : Store.wf (ptReset s.cfg) s.pt = true) :
    Store.wf (ptReset s.cfg) (s.setParam index v).pt = true := by
  rcases s.setParam_cases index v with ⟨-, he⟩ | ⟨-, he⟩ <;> rw [he]
  · exact h
  · exact Store.wf_put (ptReset s.cfg) s.pt _ _ h

/-- A snapshot copy keeps the snapshot canonical. -/
theorem State.wf_copyCell (s : State) (i : Nat) (h : Store.wf (ptReset s.cfg) s.p = true) :
    Store.wf (ptReset s.cfg) (s.copyCell i).p = true :=
  Store.wf_put (ptReset s.cfg) s.p i _ h

/-- A write to `OUT` keeps it canonical. -/
theorem OutBuf.wf_write (o : OutBuf) (i : Nat) (v : F32) (h : Store.wf (fun _ => F32.zero) o.cells = true) :
    Store.wf (fun _ => F32.zero) (o.write i v).cells = true :=
  Store.wf_put (fun _ => F32.zero) o.cells i v h

/-- A frame's writes keep `OUT` canonical. -/
theorem OutBuf.wf_writeAll (o : OutBuf) (i : Nat) (vs : List F32)
    (h : Store.wf (fun _ => F32.zero) o.cells = true) :
    Store.wf (fun _ => F32.zero) (o.writeAll i vs).cells = true := by
  induction vs generalizing o i with
  | nil => exact h
  | cons v vs ih => exact ih _ _ (OutBuf.wf_write o i v h)

/-- An element below a frame's writes stays as it was. -/
theorem OutBuf.writeAll_get_lt (o : OutBuf) (i j : Nat) (vs : List F32) (h : j < i) :
    Store.get F32.zero (o.writeAll i vs).cells j = Store.get F32.zero o.cells j := by
  induction vs generalizing o i with
  | nil => rfl
  | cons v vs ih =>
    rw [OutBuf.writeAll, ih _ _ (by omega)]
    exact Store.get_put_ne _ _ _ _ _ _ (by omega)

/-- The elements a frame's writes leave. -/
theorem OutBuf.writeAll_get (o : OutBuf) (i k : Nat) (vs : List F32) (hk : k < vs.length)
    (h : Store.wf (fun _ => F32.zero) o.cells = true) :
    Store.get F32.zero (o.writeAll i vs).cells (i + k) = vs[k] := by
  induction vs generalizing o i k with
  | nil => simp at hk
  | cons v vs ih =>
    cases k with
    | zero =>
      rw [OutBuf.writeAll, OutBuf.writeAll_get_lt _ _ _ _ (by omega)]
      exact Store.get_put_same (fun _ => F32.zero) o.cells i v h
    | succ k =>
      have := ih (o.write i v) (i + 1) k (by simpa using hk) (OutBuf.wf_write o i v h)
      rw [OutBuf.writeAll, show i + (k + 1) = i + 1 + k by omega, this]
      simp

/-! ## The reset columns and power-on -/

theorem Memory.wf_fxReset : FX.wf FX.reset = true := by decide
theorem Memory.wf_reverbReset : Reverb.wf Reverb.reset = true := by decide

/-- The machine at power-on has every space in canonical form. -/
theorem Memory.wf_reset : Memory.wf State.reset = true := by
  simp [Memory.wf, State.reset, Memory.wf_fxReset, Memory.wf_reverbReset]

end Sys2Proof.Machine
end

