-- ==== Sys2Proof/Laws/PerInstr.lean ====
section
/-! SUPPORT. Laws/PerInstr.lean: a law of every operation as syntax, one lemma per constructor: the canonical word carries
the opcode of R118, whatever the operands. -/

namespace Sys2Proof.Laws.EncodeOpcode

/-- The word an operation encodes to carries the operation's opcode in bits 63:56. -/
def Statement (i : Instr) : Prop := Word.opc (encode i) = i.opcode

theorem prepare (sr : F32) (mb : BitVec 24) : Statement (.prepare sr mb) := Word.opc_make _ _ _ _ _
theorem reset : Statement (.reset) := Word.opc_make _ _ _ _ _
theorem setBpm (bpm : F32) : Statement (.setBpm bpm) := Word.opc_make _ _ _ _ _
theorem setPlaying (on : Bool) : Statement (.setPlaying on) := Word.opc_make _ _ _ _ _
theorem setStep (lane step : BitVec 8) (on : Bool) (v : F32) : Statement (.setStep lane step on v) := Word.opc_make _ _ _ _ _
theorem clearPattern : Statement (.clearPattern) := Word.opc_make _ _ _ _ _
theorem setParam (index : BitVec 8) (v : F32) : Statement (.setParam index v) := Word.opc_make _ _ _ _ _
theorem getStepIndex : Statement (.getStepIndex) := Word.opc_make _ _ _ _ _
theorem getBpm : Statement (.getBpm) := Word.opc_make _ _ _ _ _
theorem isPlaying : Statement (.isPlaying) := Word.opc_make _ _ _ _ _
theorem cmdToggleStep (lane step : BitVec 8) (on : Bool) : Statement (.cmdToggleStep lane step on) := Word.opc_make _ _ _ _ _
theorem cmdSetBpm (bpm : F32) : Statement (.cmdSetBpm bpm) := Word.opc_make _ _ _ _ _
theorem cmdSetPlaying (on : Bool) : Statement (.cmdSetPlaying on) := Word.opc_make _ _ _ _ _
theorem process (nf : BitVec 32) (nc : BitVec 8) : Statement (.process nf nc) := Word.opc_make _ _ _ _ _

end Sys2Proof.Laws.EncodeOpcode
end

