-- ==== Sys2Proof/Tests/Slice0.lean ====
section
/-! SUPPORT. Tests/Slice0.lean: tests, with expected values from spec/95_test_vectors.md, spec/30_encoding.md and the
rules named in each; and, for each statement with hypotheses, a witness that something meets them. -/

namespace Sys2Proof.Tests

open Sys2Proof.Machine

/-! One theorem after another: a hundred checked at once ask for more threads than the memory limit allows. -/
set_option Elab.async false

/-! ## Helpers -/

/-- 48 kHz. -/
def sr48 : F32 := ⟨0x473B8000#32⟩

/-- A prepared idle block at 48 kHz with nothing else changed from power-on. -/
def base : State := { State.reset with g := ⟨true, sr48, 512#32, none⟩ }

/-- `base` with one word on its way to a port. -/
def withWord (port : Port) (w : W64) : State := { base with inbox := [⟨port, w, .after 0⟩] }

/-- `base` with a render in flight. -/
def inFlight (phase : Phase) (left : List Nat) (n nf : BitVec 32) (nc : BitVec 8) : State :=
  { base with g := ⟨true, sr48, 512#32, some ⟨phase, left, n, nf, nc⟩⟩ }

/-- The next state, if there is one. -/
def after (o : Host.Outcome State Fault Refusal) : Option State :=
  match o with
  | .next s => some s
  | .fault _ => none
  | .refused _ => none

/-- A field of the next state. -/
def got {α : Type} (f : State → α) (o : Host.Outcome State Fault Refusal) : Option α := (after o).map f

/-- The first response on record. -/
def resp (s : State) : Option (Port × BitVec 32) := s.resps.head?

/-- Ticks of the transport alone. -/
def ticks (sr : F32) : Nat → Transport → Transport
  | 0, t => t
  | n + 1, t => ticks sr n (t.tick sr)

/-! ## Well-formedness (R103): each check refuses -/

theorem test_wf_lane : Instr.wf (.setStep 3#8 0#8 true F32.one) = false := by decide
theorem test_wf_step : Instr.wf (.setStep 0#8 16#8 true F32.one) = false := by decide
theorem test_wf_toggle_lane : Instr.wf (.cmdToggleStep 3#8 0#8 true) = false := by decide
theorem test_wf_toggle_step : Instr.wf (.cmdToggleStep 2#8 16#8 true) = false := by decide
theorem test_wf_index : Instr.wf (.setParam 77#8 F32.one) = false := by decide
theorem test_wf_good : Instr.wf (.setStep 2#8 15#8 true F32.one) = true ∧ Instr.wf (.setParam 76#8 F32.one) = true := by
  decide

/-! ## Decoding: a word written out from the encoding of each operation (R104 to R117) -/

theorem test_decode_prepare : decode 0x01000200473B8000#64 = .ok (.prepare ⟨0x473B8000#32⟩ 512#24) := by decide
theorem test_decode_reset : decode 0x0200000000000000#64 = .ok .reset := by decide
theorem test_decode_setBpm : decode 0x0300000043160000#64 = .ok (.setBpm ⟨0x43160000#32⟩) := by decide
theorem test_decode_setPlaying : decode 0x0400000100000000#64 = .ok (.setPlaying true) := by decide
theorem test_decode_setStep : decode 0x050004013F4CCCCD#64 = .ok (.setStep 0#8 4#8 true ⟨0x3F4CCCCD#32⟩) := by decide
theorem test_decode_clearPattern : decode 0x0600000000000000#64 = .ok .clearPattern := by decide
theorem test_decode_setParam : decode 0x070900003F000000#64 = .ok (.setParam 9#8 ⟨0x3F000000#32⟩) := by decide
theorem test_decode_getStepIndex : decode 0x0800000000000000#64 = .ok .getStepIndex := by decide
theorem test_decode_getBpm : decode 0x0900000000000000#64 = .ok .getBpm := by decide
theorem test_decode_isPlaying : decode 0x0A00000000000000#64 = .ok .isPlaying := by decide
theorem test_decode_toggleStep : decode 0x1002040100000000#64 = .ok (.cmdToggleStep 2#8 4#8 true) := by decide
theorem test_decode_cmdSetBpm : decode 0x1100000042B40000#64 = .ok (.cmdSetBpm ⟨0x42B40000#32⟩) := by decide
theorem test_decode_cmdSetPlaying : decode 0x1200000000000000#64 = .ok (.cmdSetPlaying false) := by decide
theorem test_decode_process : decode 0x2002000000000200#64 = .ok (.process 512#32 2#8) := by decide
theorem test_decode_reserved :
    decode 0x0B00000000000000#64 = .error (.reservedOpcode 0x0B#8) ∧ decode 0#64 = .error (.reservedOpcode 0#8) := by
  decide

/-- R76: the byte image of the word of R108's example, byte 0 first. -/
theorem test_decode_bytes :
    decodeBytes [0xCD#8, 0xCC#8, 0x4C#8, 0x3F#8, 0x01#8, 0x04#8, 0x00#8, 0x05#8] =
      .ok (.setStep 0#8 4#8 true ⟨0x3F4CCCCD#32⟩) ∧ decodeBytes [0x02#8] = .error (.notOneWord 1) := by decide

theorem test_encode_setStep : encode (.setStep 0#8 4#8 true ⟨0x3F4CCCCD#32⟩) = 0x050004013F4CCCCD#64 := by decide

/-! ## Constants (R10, R14) and arithmetic (R13, 2.4) -/

theorem test_constants :
    F32.dec 99999 5 = ⟨0x3F7FFF58#32⟩ ∧ F32.dec 1 4 = Config.envEps ∧ F32.ofNat 120 = ⟨0x42F00000#32⟩ ∧
      Config.bpmMin = ⟨0x42200000#32⟩ ∧ Config.bpmMax = ⟨0x43700000#32⟩ ∧ F32.dec 8 1 = ⟨0x3F4CCCCD#32⟩ ∧
      F32.dec (-5) 1 = ⟨0xBF000000#32⟩ := by decide +kernel

/-- 2.4: `softClip`. -/
theorem test_softClip :
    softClip F32.zero = F32.zero ∧ softClip (F32.ofNat 3) = F32.one ∧ softClip F32.one = ⟨0x3F471C72#32⟩ ∧
      softClip F32.half = ⟨0x3EEE7EE8#32⟩ ∧ softClip F32.two.neg = ⟨0xBF7BEFBF#32⟩ ∧
      softClip (F32.ofNat 6) = ⟨0x3F89D89E#32⟩ := by decide +kernel

/-- 2.4: `hardClip`, `clamp2`. -/
theorem test_clips :
    hardClip (F32.dec 15 1) = F32.one ∧ hardClip ⟨0xFF800000#32⟩ = F32.one.neg ∧ (hardClip F32.nan).isNaN = true ∧
      clamp2 (F32.dec 75 1) = F32.two ∧ clamp2 ⟨0xFF800000#32⟩ = F32.two.neg ∧ clamp2 F32.nan = F32.zero ∧
      clamp2 F32.two = F32.two := by decide +kernel

/-- 2.4: `foldback(x, 1)` at 1.5, 3, -1.5, 5, 7.25, -3; `foldback(x, 0)`; an infinity. -/
theorem test_foldback :
    foldback (F32.dec 15 1) F32.one = F32.half ∧ foldback (F32.ofNat 3) F32.one = F32.one.neg ∧
      foldback (F32.dec (-15) 1) F32.one = F32.half.neg ∧ foldback (F32.ofNat 5) F32.one = F32.one ∧
      foldback (F32.dec 725 2) F32.one = F32.dec (-75) 2 ∧ foldback (F32.ofNat 3).neg F32.one = F32.one ∧
      foldback F32.one F32.zero = F32.zero ∧ (foldback ⟨0x7F800000#32⟩ F32.one).isNaN = true := by decide +kernel

/-- 2.5: `wrap2pi`, `adv`, `tri`, `square`. -/
theorem test_phase :
    wrap2pi (F32.ofNat 7) = ⟨0x3F378128#32⟩ ∧ wrap2pi F32.one.neg = ⟨0x40A90FDB#32⟩ ∧
      wrap2pi (F32.ofNat 100) = ⟨0x40B81230#32⟩ ∧ wrap2pi Config.twoPi = F32.zero ∧ wrap2pi F32.nan = F32.zero ∧
      adv F32.zero (F32.ofNat 12000) sr48 = ⟨0x3FC90FDB#32⟩ ∧ tri F32.one = ⟨0x3F22F983#32⟩ ∧
      square F32.one F32.half = F32.one ∧ square (F32.ofNat 4) F32.half = F32.one.neg := by decide +kernel

/-- 2.2: `xorshift32`, `white`, `reseed`. -/
theorem test_noise :
    xorshift32 Config.reference 1#32 = 0x00042021#32 ∧ xorshift32 Config.reference 0x00042021#32 = 0x04080601#32 ∧
      xorshift32 Config.reference 0x9E3779B9#32 = 0x510C4619#32 ∧
      (white Config.reference ⟨0x75432777#32⟩).1 = F32.dec (-7181326150894165) 16 ∧
      lcgStep Config.reference 0x12345678#32 = 0x75432777#32 ∧ lcgStep Config.reference 0#32 = 0x3C6EF35F#32 := by
  decide +kernel

/-- 2.1: attack-decay with `ca = F32(0.9)`: the first two returns. -/
theorem test_attack :
    ((⟨.attack, F32.zero⟩ : ADEnv).next (F32.dec 9 1) (F32.dec 999 3)).1 = ⟨0x3DCCCCD0#32⟩ ∧
      ((⟨.attack, ⟨0x3DCCCCD0#32⟩⟩ : ADEnv).next (F32.dec 9 1) (F32.dec 999 3)).1 = ⟨0x3E428F60#32⟩ ∧
      ((⟨.attack, F32.zero⟩ : ADEnv).next F32.zero F32.zero).2 = ⟨.decay, F32.one⟩ ∧
      ((⟨.decay, F32.one⟩ : ADEnv).next F32.zero F32.zero).2.state = .off := by decide +kernel

/-- R40: the range and the reset value of a coefficient, an attack coefficient and a frequency that can be negative. -/
theorem test_table : rowPattern Config.reference 0 = (0#32, 0x3F7FFF58#32, 0x3F7FDF3B#32) ∧
    (ptMax Config.reference 32 = Config.reference.atkCoefMax) ∧
    rowPattern Config.reference 58 = (0xC4FA0000#32, 0x44FA0000#32, 0#32) := by decide +kernel

/-- The reference configuration with the range [0, `m`] on every parameter. -/
def cfgWithMax (m : F32) : Cfg := { Config.reference with ptRanges := List.replicate 77 ⟨F32.zero, m⟩ }

/-- R10, U10: a narrower range holds on a coefficient, an attack coefficient and the feedback; a wider one is cut to
`COEF_MAX`, `ATK_COEF_MAX` and 0.5. -/
theorem test_table_bounds :
    [0, 32, 9].map (ptMax (cfgWithMax (F32.dec 25 2))) = [F32.dec 25 2, F32.dec 25 2, F32.dec 25 2] ∧
      [0, 32, 9].map (ptMax (cfgWithMax F32.one)) =
        [Config.reference.coefMax, Config.reference.atkCoefMax, ⟨0x3F000000#32⟩] := by decide +kernel

/-- R131, R13: the least subnormal times 0.75 rounds back to itself, times 0.5 to 0 (a tie, to even). -/
theorem test_decay_tail : ((⟨⟨1#32⟩⟩ : DecayEnv).next (F32.dec 75 2)).2 = ⟨⟨1#32⟩⟩ ∧
    ((⟨⟨1#32⟩⟩ : DecayEnv).next F32.half).2 = ⟨F32.zero⟩ := by decide +kernel

/-- 2.3: one-pole filters with `a = 0.5`; `lpCoef(0) = 0`. -/
theorem test_onepole :
    (LP.step ⟨F32.half⟩ F32.half F32.one).1 = F32.dec 75 2 ∧ (HP.step ⟨F32.half⟩ F32.half F32.one).1 = F32.dec 25 2 ∧
      lpCoef F32.zero sr48 = F32.zero := by decide +kernel

/-- R154, R13: a coefficient from `EXP = 2^-25` rounds to 1.0. -/
theorem test_lpcoef_rounds_to_one : F32.one.sub ⟨0x33000000#32⟩ = F32.one := by decide +kernel

/-- R158, R160, R13: at 10^13 the numerator of `softClip` is infinite; 2^25 folded at 1 gives 1, since 2^25 - 1 rounds to
2^25. -/
theorem test_saturators_far_out : softClip (F32.ofNat (10 ^ 13)) = ⟨0x7F800000#32⟩ ∧
    foldback (F32.ofNat (2 ^ 25)) F32.one = F32.one := by decide +kernel

/-- 2.6: an allpass and a comb of two elements fed an impulse: third output. -/
theorem test_delays :
    (Allpass.step 2 (Allpass.step 2 (Allpass.step 2 Delay.reset F32.one F32.half).2 F32.zero F32.half).2
        F32.zero F32.half).1 = F32.dec 75 2 ∧
      (Comb.step 2 (Comb.step 2 (Comb.step 2 Comb.reset F32.one F32.half F32.half).2 F32.zero F32.half F32.half).2
        F32.zero F32.half F32.half).1 = F32.one := by decide +kernel

/-- R203 (2.7): the chain mode at the boundary of the sentinel. -/
theorem test_chainMode :
    chainMode F32.one.neg F32.two = .foldback ∧ chainMode (F32.dec (-5) 1) F32.two = .tanh ∧
      chainMode (F32.dec (-6) 1) F32.one = .hard ∧ chainMode (F32.dec 15 1) F32.zero = .foldback := by decide +kernel

/-- 2.8: the first snare sample at the reset parameters, velocity 1. -/
theorem test_snare :
    (((Snare.reset Config.reference).trigger F32.one).process Config.reference (ptReset Config.reference) sr48).1 =
      ⟨0xBE83773C#32⟩ := by decide +kernel

/-- R303: frames for one step at 48 kHz and 120 BPM, and at 44.1 kHz. -/
theorem test_framesPerStep :
    framesPerStep sr48 (F32.ofNat 120) = F64.ofNat 6000 ∧
      framesPerStep (F32.ofNat 44100) (F32.ofNat 120) = ⟨0x40B5888000000000#64⟩ := by decide +kernel

/-! ## Operations -/

theorem test_prepare : got (fun t => (t.g.prepared, t.g.sr, t.g.maxBlk, resp t))
    (step { State.reset with inbox := [⟨.ctrl, 0x01000200473B8000#64, .whenIdle⟩] }) =
      some (true, sr48, 512#32, some (.ctrl, 0#32)) := by decide +kernel
/-- R404: an infinite rate. -/
theorem test_prepare_bad : got (fun t => t.g.prepared) (exec (.prepare ⟨0x7F800000#32⟩ 0#24) State.reset) =
    some false := by decide +kernel
/-- R401: the position goes, the tempo and the run state stay. -/
theorem test_reset : got (fun t => t.t)
    (exec .reset { base with t := ⟨⟨0x42B40000#32⟩, true, 5#4, 30001#64, F64.ofNat 36000⟩ }) =
      some ⟨⟨0x42B40000#32⟩, true, 0#4, 0#64, F64.zero⟩ := by decide +kernel
/-- R331: 1000 becomes 240. -/
theorem test_setBpm_high : got (fun t => t.t.bpm) (step (withWord .ctrl 0x03000000447A0000#64)) =
    some ⟨0x43700000#32⟩ := by decide +kernel
/-- R331: a NaN is ignored. -/
theorem test_setBpm_nan : got (fun t => (t.t.bpm, resp t)) (step (withWord .ctrl 0x030000007FC00000#64)) =
    some (⟨0x42F00000#32⟩, some (.ctrl, 0#32)) := by decide +kernel
theorem test_setPlaying : got (fun t => t.t.playing) (step (withWord .ctrl 0x0400000100000000#64)) = some true := by
  decide +kernel
/-- S7: velocity 0.8 is kept exactly; another element stays clear. -/
theorem test_setStep : got (fun t => (t.patAt 0 4, t.patAt 1 4)) (step (withWord .ctrl 0x050004013F4CCCCD#64)) =
    some (⟨true, ⟨0x3F4CCCCD#32⟩⟩, ⟨false, F32.zero⟩) := by decide +kernel
/-- R332: lane 3 is ignored. -/
theorem test_setStep_lane : got (fun t => t.pat) (step (withWord .ctrl 0x050300013F800000#64)) = some [] := by
  decide +kernel
theorem test_clearPattern : got (fun t => t.patAt 2 15)
    (exec .clearPattern { base with pat := [(47, ⟨true, F32.one⟩)] }) = some ⟨false, F32.zero⟩ := by decide +kernel
/-- S8: `SETPARAM K_FEEDBACK, 0.9` stores 0.5; the snapshot stays. -/
theorem test_setParam : got (fun t => (t.ptAt 9, t.par 9)) (exec (.setParam 9#8 (F32.dec 9 1)) base) =
    some (F32.half, F32.zero) := by decide +kernel
theorem test_setParam_index : got (fun t => t.pt) (exec (.setParam 77#8 F32.one) base) = some [] := by decide +kernel
theorem test_getStepIndex : got resp (exec .getStepIndex { base with t := { base.t with stepIndex := 15#4 } }) =
    some (some (.ctrl, 15#32)) := by decide +kernel
theorem test_getBpm : got resp (exec .getBpm base) = some (some (.ctrl, 0x42F00000#32)) := by decide +kernel
theorem test_isPlaying : got resp (exec .isPlaying { base with t := { base.t with playing := true } }) =
    some (some (.ctrl, 1#32)) := by decide +kernel
/-- R341: the velocity is kept. -/
theorem test_toggleStep : got (fun t => t.patAt 2 15)
    (exec (.cmdToggleStep 2#8 15#8 false) { base with pat := [(47, ⟨true, F32.half⟩)] }) =
      some ⟨false, F32.half⟩ := by decide +kernel
theorem test_cmdSetBpm : got (fun t => t.t.bpm) (exec (.cmdSetBpm (F32.ofNat 30)) base) = some ⟨0x42200000#32⟩ := by
  decide +kernel
theorem test_cmdSetPlaying : got (fun t => (t.t.playing, t.resps)) (exec (.cmdSetPlaying true) base) =
    some (true, []) := by decide +kernel
/-- R345: accepted: the engine drains. -/
theorem test_process : got (fun t => (t.g.busy, t.out.len, t.resps)) (step (withWord .render 0x2002000000000200#64)) =
    some (true, 0, []) := by decide +kernel
/-- R348: 512 frames of 2 channels before `PREPARE` are 1024 zeros. -/
theorem test_process_unprepared : got (fun t => (t.g.busy, t.out.len, resp t)) (exec (.process 512#32 2#8) State.reset) =
    some (false, 1024, some (.render, 0#32)) := by decide +kernel
/-- R336: a push, and a push into a full queue. -/
theorem test_push : got (fun t => (t.q, resp t)) (step (withWord .cmd 0xFF00000000000000#64)) =
    some ([0xFF00000000000000#64], some (.cmd, 1#32)) ∧
    got (fun t => (t.q.length, resp t)) (step { withWord .cmd 0#64 with q := List.replicate 64 0#64 }) =
      some (64, some (.cmd, 0#32)) := by decide +kernel
/-- S6: the two commands of the example, drained in order. -/
theorem test_drain : got (fun t => (t.patAt 0 4, t.t.bpm, t.q))
    (Sys2Proof.core.run 2 { inFlight .drain [0] 0#32 1#32 2#8 with
      q := [0x1000040100000000#64, 0x1100000042B40000#64] }) =
    some (⟨true, F32.zero⟩, ⟨0x42B40000#32⟩, []) := by decide +kernel
/-- R347: one cell of the table reaches the snapshot. -/
theorem test_snapshot : got (fun t => (t.par 12, t.g.render.map (·.snapLeft)))
    (step { inFlight .snap [12, 13] 0#32 1#32 2#8 with pt := [(12, F32.two)] }) = some (F32.two, some [13]) := by
  decide +kernel

/-! ## The host's placing of a word: each row runs as the next step -/

theorem test_place_ctrl : got (fun t => t.t.playing) (step (base.withFetchWord 64 0x0400000100000000)) = some true := by
  decide +kernel
theorem test_place_cmd : got (fun t => t.t.bpm) (step (State.reset.withFetchWord 64 0x1100000042B40000)) =
    some ⟨0x42B40000#32⟩ := by decide +kernel
theorem test_place_render : got (fun t => t.out.len) (step (State.reset.withFetchWord 64 0x2002000000000200)) =
    some 1024 := by decide +kernel

/-! ## Witnesses: for each statement with hypotheses, states and operands that meet them all -/

/-- A word on its way. -/
def word (port : Port) (w : W64) : Presented := ⟨port, w, .after 0⟩

/-- Nothing rendered yet, one frame of two channels to render. -/
def ticking : State := inFlight .tick [] 0#32 1#32 2#8

/-- A step that triggers all three voices is due. -/
def firing : State :=
  { base with t := { base.t with playing := true }, pat := [(0, ⟨true, F32.one⟩), (16, ⟨true, F32.half⟩), (32, ⟨true, F32.zero⟩)] }

theorem wit_OpcodeAloneSelects :
    Word.opc 0x20FFFFFFFFFFFFFF#64 ∈ [0x01#8, 0x02#8, 0x03#8, 0x04#8, 0x05#8, 0x06#8, 0x07#8, 0x08#8, 0x09#8, 0x0A#8,
      0x10#8, 0x11#8, 0x12#8, 0x20#8] ∧
    Word.opc 0x0B00000000000000#64 ∉ [0x01#8, 0x02#8, 0x03#8, 0x04#8, 0x05#8, 0x06#8, 0x07#8, 0x08#8, 0x09#8, 0x0A#8,
      0x10#8, 0x11#8, 0x12#8, 0x20#8] := by decide

theorem wit_StepRunsTheDecodedOperation_port : (withWord .render 0x2002000000000200#64).inbox =
      [word .render 0x2002000000000200#64] ∧ Port.render ≠ .cmd ∧
    decode 0x2002000000000200#64 = .ok (.process 512#32 2#8) ∧ (Instr.process 512#32 2#8).port = .render ∧
    (withWord .render 0x2002000000000200#64).g.busy = false := by decide
theorem wit_StepRunsTheDecodedOperation_busy :
    { ticking with inbox := [word .ctrl 0x0400000100000000#64] }.inbox = [word .ctrl 0x0400000100000000#64] ∧
    decode 0x0400000100000000#64 = .ok (.setPlaying true) ∧ (Instr.setPlaying true).port = .ctrl ∧
    (word .ctrl 0x0400000100000000#64).arrival = .after 0 ∧ holds (.setPlaying true) = false := by decide
theorem wit_StepRunsTheDecodedOperation_drain : (inFlight .drain [0] 0#32 1#32 2#8).inbox = [] ∧
    (inFlight .drain [0] 0#32 1#32 2#8).g.render = some ⟨.drain, [0], 0#32, 1#32, 2#8⟩ ∧
    { inFlight .drain [0] 0#32 1#32 2#8 with q := [0x1200000100000000#64] }.q = [0x1200000100000000#64] ∧
    decode 0x1200000100000000#64 = .ok (.cmdSetPlaying true) ∧ (Instr.cmdSetPlaying true).port = .cmd := by decide
theorem wit_StepRunsTheDecodedOperation_waiting :
    takesNow (word .render 0x2002000000000200#64) (inFlight .drain [0] 0#32 1#32 2#8) = false := by decide

theorem wit_ReservedOrWrongPortIgnored : takesNow (word .ctrl 0x0B00000000000000#64) (withWord .ctrl 0x0B00000000000000#64) = true ∧
    (decode 0x0B00000000000000#64).isOk = false ∧
    decode 0x2002000000000200#64 = .ok (.process 512#32 2#8) ∧ (Instr.process 512#32 2#8).port ≠ .ctrl ∧
    Word.opc 0x13FFFFFFFFFFFFFF#64 ∉ [0x10#8, 0x11#8, 0x12#8] := by decide

theorem wit_PushAppendsOrDrops :
    (takesNow (word .cmd 0#64) (withWord .cmd 0#64) = true ∧
      { withWord .cmd 0#64 with q := List.replicate 63 0#64 }.q.length ≠ base.cfg.cmdqDepth ∧ base.g.prepared = true) ∧
    { withWord .cmd 0#64 with q := List.replicate 64 0#64 }.q.length = base.cfg.cmdqDepth ∧
    { State.reset with inbox := [word .cmd 0#64] }.g.prepared = false := by decide +kernel

theorem wit_HeldWordsWait :
    (∃ t, step { ticking with inbox := [word .render 0#64, word .ctrl 0#64] } = .next t) ∧ ticking.g.busy = true ∧
    decode 0x0200000000000000#64 = .ok .reset ∧
    (∃ t, step { ticking with inbox := [word .ctrl 0x0200000000000000#64] } = .next t) ∧
    rateAccepted sr48 = true ∧ decode 0x01000200473B8000#64 = .ok (.prepare sr48 512#24) ∧
    (∃ t, step { ticking with inbox := [word .ctrl 0x01000200473B8000#64] } = .next t) :=
  ⟨⟨_, rfl⟩, by decide, by decide, ⟨_, rfl⟩, by decide +kernel, by decide, ⟨_, rfl⟩⟩

/-- A drain with two words in the queue: S6's toggle and tempo. -/
def draining : State :=
  { inFlight .drain [0] 0#32 1#32 2#8 with q := [0x1000040100000000#64, 0x1100000042B40000#64] }
theorem wit_DrainAppliesQueueInOrder : draining.inbox = [] ∧ draining.q.length = 2 ∧
    draining.g.render = some ⟨.drain, [0], 0#32, 1#32, 2#8⟩ := by decide

theorem wit_OneResponsePerWord : takesNow (word .ctrl 0#64) (withWord .ctrl 0#64) = true ∧
    ∃ t, step (withWord .ctrl 0#64) = .next t := ⟨by decide, _, rfl⟩

/-! CTRL operations. -/

theorem wit_PrepareInitialisesEverything_good :
    ((⟨0x00000001#32⟩ : F32).isNaN = false ∧ (⟨0x00000001#32⟩ : F32).isInf = false ∧
      F32.zero.lt ⟨0x00000001#32⟩ = true) ∧
    ((⟨0x7F7FFFFF#32⟩ : F32).isNaN = false ∧ (⟨0x7F7FFFFF#32⟩ : F32).isInf = false ∧
      F32.zero.lt ⟨0x7F7FFFFF#32⟩ = true) ∧ State.reset.g.busy = false := by decide +kernel
theorem wit_PrepareInitialisesEverything_bad :
    (⟨0x7F800001#32⟩ : F32).isNaN = true ∧ (⟨0x7F800000#32⟩ : F32).isInf = true ∧ F32.zero.isZero = true ∧
      (⟨0x80000001#32⟩ : F32).isNeg = true := by decide +kernel

/-- For the statements that ask for a prepared idle block alone: RESET, SETPLAYING, CLEARPATTERN, PROCESS. -/
theorem wit_prepared : base.g.prepared = true ∧ base.g.busy = false := by decide
/-- For the statements that ask for an unprepared idle block alone. -/
theorem wit_unprepared : State.reset.g.prepared = false ∧ State.reset.g.busy = false := by decide

theorem wit_ResetColumns : Config.reference.kickSeed0 ≠ 0#32 ∧
    { Config.reference with kickSeed0 := 0#32 }.kickSeed0 = 0#32 := by decide +kernel

/-- The clauses of SETBPM and of the queued tempo, at the ends of the range. -/
theorem wit_SetBpmClampsTempo : F32.nan.isNaN = true ∧ (⟨0x421FFFFF#32⟩ : F32).lt ⟨0x42200000#32⟩ = true ∧
    (⟨0x43700001#32⟩ : F32).gt ⟨0x43700000#32⟩ = true ∧
    (⟨0x42200000#32⟩ : F32).lt ⟨0x42200000#32⟩ = false ∧ (⟨0x43700000#32⟩ : F32).gt ⟨0x43700000#32⟩ = false ∧
    (⟨0x42200000#32⟩ : F32).isNaN = false := by decide +kernel

/-- The clauses of SETSTEP and of the queued toggle, at the ends of each range. -/
theorem wit_SetStepWritesOneElement : Memory.wf base = true ∧ (2#8).toNat < 3 ∧ 3 ≤ (3#8).toNat ∧ (15#8).toNat < 16 ∧
    16 ≤ (16#8).toNat ∧ (⟨0x80000001#32⟩ : F32).lt ⟨0#32⟩ = true ∧ (⟨0x3F800001#32⟩ : F32).gt ⟨0x3F800000#32⟩ = true ∧
    (⟨0x80000000#32⟩ : F32).lt ⟨0#32⟩ = false ∧ (⟨0x3F800000#32⟩ : F32).gt ⟨0x3F800000#32⟩ = false ∧
    ¬((2 : Nat) = 0 ∧ (15 : Nat) = 15) := by decide +kernel

/-- Parameter 9 (`K_FEEDBACK`, [0, 0.5]) and the ends of the index range. -/
theorem wit_SetParamStoresClampedValue : (ptMin base.cfg 76).le (ptMax base.cfg 76) = true ∧
    (ptMin base.cfg 9).le (ptMax base.cfg 9) = true ∧ (76#8).toNat < base.cfg.nparam ∧
    base.cfg.nparam ≤ (77#8).toNat ∧ (⟨0x80000001#32⟩ : F32).lt (ptMin base.cfg 9) = true ∧
    (⟨0x3F000001#32⟩ : F32).gt (ptMax base.cfg 9) = true ∧ F32.half.lt (ptMin base.cfg 9) = false ∧ F32.half.gt (ptMax base.cfg 9) = false ∧ F32.half.isNaN = false := by decide +kernel

/-- The clauses about ranges below a bound, with a bound and without one. -/
theorem wit_SetParamStoresClampedValue_range :
    (cfgWithMax (F32.dec 25 2)).ptRanges[9]? = some ⟨F32.zero, F32.dec 25 2⟩ ∧
      ptCap (cfgWithMax (F32.dec 25 2)) 9 = some F32.half ∧ (F32.dec 25 2).lt F32.half = true ∧
      ptCap (cfgWithMax (F32.dec 25 2)) 76 = none := by decide +kernel

theorem wit_GettersReadTheirField : firing.g.prepared = true ∧ firing.t.playing = true ∧ base.t.playing = false := by
  decide

theorem wit_IgnoredBeforePrepare : Instr.port .getBpm = .ctrl ∧ ∀ sr mb, Instr.getBpm ≠ .prepare sr mb :=
  ⟨rfl, fun _ _ h => nomatch h⟩

/-! Rendering. -/

theorem wit_ProcessIsAccepted : (0xFFFFFFFF#32).toInt < 0 ∧ (0x80000000#32).toInt < 0 ∧ 0 ≤ (0#32).toInt ∧
    0 ≤ (0x7FFFFFFF#32).toInt := by decide

theorem wit_ProcessBeforePrepareWritesZeros :
    got (fun t => t.out.at? 3) (exec (.process 2#32 2#8) State.reset) = some (some F32.zero) := by decide +kernel

theorem wit_SnapshotStepCopiesOneCell :
    (inFlight .snap [12, 13] 0#32 1#32 2#8).g.render = some ⟨.snap, [12, 13], 0#32, 1#32, 2#8⟩ ∧
    (inFlight .snap [13] 0#32 0#32 2#8).g.render = some ⟨.snap, [13], 0#32, 0#32, 2#8⟩ ∧
    (inFlight .snap [13] 0#32 1#32 2#8).g.render = some ⟨.snap, [13], 0#32, 1#32, 2#8⟩ ∧
    Memory.wf (inFlight .snap [12, 13] 0#32 1#32 2#8) = true := by decide +kernel

theorem wit_TickStepWritesOneFrame :
    RenderLegal ticking = true ∧ Memory.wf ticking = true ∧ (0#32).toNat + 1 = (1#32).toNat ∧
    RenderLegal (inFlight .tick [] 0#32 2#32 0#8) = true ∧ (0#32).toNat + 1 < (2#32).toNat ∧
    RenderLegal (inFlight .tick [] 0#32 1#32 1#8) = true ∧ 2 < (3#8).toNat ∧
    RenderLegal (inFlight .tick [] 0#32 1#32 3#8) = true := by decide +kernel

theorem wit_UninterruptedProcessCompletes :
    (withWord .render 0x2002000000000003#64).inbox = [word .render 0x2002000000000003#64] ∧
    decode 0x2002000000000003#64 = .ok (.process 3#32 2#8) ∧ (withWord .render 0x2002000000000003#64).g.prepared = true ∧
    (withWord .render 0x2002000000000003#64).g.busy = false ∧ base.cfg.snapOrder ≠ [] ∧
    82 = 1 + (base.q.length + 1) + base.cfg.snapOrder.length + (frameCount 3#32).toNat ∧ 81 < 82 ∧
    Memory.wf (withWord .render 0x2002000000000003#64) = true := by decide +kernel

/-! Invariants: a tick from `ticking` meets them all. -/

theorem wit_step_ticking : ∃ t, step ticking = .next t := ⟨_, rfl⟩
theorem wit_invariants_ticking : Memory.wf ticking = true ∧ Cfg.lengthsLegal ticking.cfg = true ∧
    CursorsInside ticking = true ∧ TempoLegal ticking = true ∧ Cfg.tableLegal ticking.cfg = true ∧
    QueueBounded ticking = true ∧ ticking.cfg.snapOrder ≠ [] ∧ RenderLegal ticking = true ∧ PhasesLegal ticking = true ∧
    Cfg.shiftsReference ticking.cfg = true ∧ Cfg.seedsLegal ticking.cfg = true ∧ NoiseAlive ticking = true ∧
    EnvelopesLegal ticking = true := by decide +kernel
theorem wit_ParamsLegal_ticking : ParamsLegal ticking := by unfold ParamsLegal; decide +kernel
theorem wit_VelocitiesLegal_ticking : VelocitiesLegal ticking := by
  intro lane step _ _
  show F32.unit F32.zero = true
  decide +kernel
theorem wit_OutputSafe_ticking : OutputSafe ticking := by
  intro i v h
  simp [ticking, inFlight, base, State.reset, OutBuf.at?] at h
theorem wit_HatCacheSound_ticking : HatCacheSound ticking := .inl (by decide +kernel)

/-! Rules about the whole machine. -/

theorem wit_OnlyPrepareSetsPrepared :
    (∃ t, step { State.reset with inbox := [word .ctrl 0x01000200473B8000#64] } = .next t) ∧
    got (fun t => t.g.prepared) (step { State.reset with inbox := [word .ctrl 0x01000200473B8000#64] }) = some true ∧
    got (fun t => t.g.prepared) (step (withWord .ctrl 0#64)) = some true :=
  ⟨⟨_, rfl⟩, by decide +kernel, by decide +kernel⟩

/-- The inbox is empty in this witness and the next, so no word is taken. -/
theorem wit_OnlySnapshotStepsChangeP :
    got (fun t => decide (t.p ≠ [])) (step { inFlight .snap [12, 13] 0#32 1#32 2#8 with pt := [(12, F32.two)] }) =
      some true := by decide +kernel

theorem wit_OnlyPlayingTicksMoveThePosition :
    got (fun t => t.t.stepIndex)
      (step { withWord .ctrl 0x0200000000000000#64 with t := { base.t with stepIndex := 5#4 } }) = some 0#4 := by
  decide +kernel

/-- A tick of a playing block, between firings, and one that fires. -/
theorem wit_OnlyPlayingTicksMoveThePosition_tick :
    got (fun t => (t.t.stepIndex, t.t.currentFrame)) (step { ticking with
      t := { base.t with playing := true, currentFrame := 5999#64, nextStepFrame := F64.ofNat 6000 } }) =
        some (0#4, 6000#64) ∧
    got (fun t => (t.t.stepIndex, t.t.nextStepFrame)) (step { ticking with
      t := { base.t with playing := true, currentFrame := 6000#64, nextStepFrame := F64.ofNat 6000 } }) =
        some (1#4, F64.ofNat 12000) ∧ TakesNoWord ticking :=
  ⟨by decide +kernel, by decide +kernel, fun _ _ h => nomatch h⟩

theorem wit_NextFiringNeverMovesBack : rateAccepted firing.g.sr = true ∧ TempoLegal firing = true ∧
    firing.t.nextStepFrame.isNaN = false ∧ ∃ t, step firing = .next t :=
  ⟨by decide +kernel, by decide +kernel, by decide +kernel, _, rfl⟩

theorem wit_UnpreparedStateIsNeverRead :
    SameOutside { State.reset with inbox := [word .ctrl 0x01000200473B8000#64] }
      { State.reset with inbox := [word .ctrl 0x01000200473B8000#64], t := firing.t } ∧
    (∃ t, step { State.reset with inbox := [word .ctrl 0x01000200473B8000#64] } = .next t) ∧
    ∃ t, step { State.reset with inbox := [word .ctrl 0x01000200473B8000#64], t := firing.t } = .next t :=
  ⟨⟨rfl, rfl, rfl, rfl, rfl, rfl⟩, ⟨_, rfl⟩, ⟨_, rfl⟩⟩

/-- Stopped at 16 Hz, the lowest rate of the statement. -/
theorem wit_SilenceIsKept : base.cfg = Config.reference ∧ (F32.ofNat 16).isFinite = true ∧
    (F32.ofNat 16).le (F32.ofNat 16) = true ∧ Silent { base with g := { base.g with sr := F32.ofNat 16 } } = true ∧
    (base.par Param.M_GAIN).isNeg = false ∧ SilentExact base = true ∧ (base.par Param.FX_MIX).feq ⟨0#32⟩ = true ∧
    (base.par Param.FX_SHIFT_HZ).feq ⟨0#32⟩ = true ∧ (base.par Param.FX_TRANS_DEPTH).feq ⟨0#32⟩ = true ∧
    base.fx.trEnv.state ≠ .attack ∧
    Silent { base with fx := { base.fx with trEnv := ⟨.attack, F32.half⟩, shOsc := ⟨F32.one⟩ } } = true :=
  ⟨rfl, by decide +kernel⟩

/-! The transport, voices, effects, primitives. -/

theorem wit_TickMovesTheTransport : base.t.playing = false ∧ firing.t.playing = true ∧
    firing.t.nextStepFrame.le (F64.ofNat firing.t.currentFrame.toNat) = true ∧
    (F64.ofNat 6000).le (F64.ofNat 5999) = false := by decide +kernel

theorem wit_SixteenStepsTake96000Frames :
    firing.g.sr = ⟨0x473B8000#32⟩ ∧ firing.t = ⟨⟨0x42F00000#32⟩, true, 0#4, 0#64, ⟨0#64⟩⟩ := by decide +kernel

theorem wit_FiringTriggersTheStepsThatAreOn :
    ((firing.patAt 0 0).on = true ∧ (firing.patAt 1 0).on = true ∧ (firing.patAt 2 0).on = true) ∧
    ({ firing with pat := [] }.patAt 0 0).on = false ∧ ({ firing with pat := [] }.patAt 1 0).on = false ∧
    ({ firing with pat := [] }.patAt 2 0).on = false ∧ firing.t.due = true := by decide +kernel

theorem wit_KickNoiseDraws : (Kick.reset Config.reference).active = false ∧
    ((Kick.reset Config.reference).trigger Config.reference (ptReset Config.reference) F32.one).active = true := by decide +kernel

theorem wit_VoicesEndWithTheirEnvelopes :
    ((Kick.reset Config.reference).trigger Config.reference (ptReset Config.reference) F32.one).active = true ∧
    ((Snare.reset Config.reference).trigger F32.one).active = true ∧
    ((Hat.reset Config.reference).trigger F32.one).active = true := by decide +kernel

/-- At the reset parameters every stage this statement names is bypassed. -/
theorem wit_BypassedStagesAreFrozen :
    (base.par 68).feq ⟨0#32⟩ = true ∧ (base.par 58).feq ⟨0#32⟩ = true ∧ (base.par 60).feq ⟨0#32⟩ = true ∧
    (base.par 63).feq ⟨0#32⟩ = true ∧ (base.par 64).feq ⟨0#32⟩ = true ∧
    (base.par 67).ge Config.reference.fxToneBypassHz = true := by decide +kernel

theorem wit_DelayReturnsAfterItsLength : Delay.wf Delay.reset = true ∧ Delay.inside 1 Delay.reset = true ∧
    ([] : List F32).length + 1 = 1 ∧ Delay.inside 3 ⟨[], 2⟩ = true := by decide

theorem wit_ClampAndFoldStayInRange : F32.nan.isNaN = true ∧ sampleSafe F32.two = true ∧
    (⟨0x40000001#32⟩ : F32).gt ⟨0x40000000#32⟩ = true ∧ (⟨0xC0000001#32⟩ : F32).lt ⟨0xC0000000#32⟩ = true ∧
    (⟨0x7F7FFFFF#32⟩ : F32).isFinite = true ∧ F32.zero.lt ⟨1#32⟩ = true ∧ (⟨1#32⟩ : F32).le (F32.ofNat 4) = true ∧
    (F32.ofNat 4).le (F32.ofNat 4) = true ∧ F32.within (F32.ofNat 4).neg (F32.ofNat 4) (F32.ofNat 4) = true := by
  decide +kernel

theorem wit_EnvelopeStepsStayInUnit : F32.unit F32.one = true ∧ F32.unit F32.zero.neg = true ∧
    F32.unit (⟨.decay, F32.one⟩ : ADEnv).value = true ∧ (⟨.decay, F32.one⟩ : ADEnv).state = .decay ∧
    F32.unit (⟨.attack, F32.zero⟩ : ADEnv).value = true := by decide +kernel

theorem wit_WidenerIsIdentityOnMono : (F32.dec 3 1).isFinite = true ∧ ((F32.dec 3 1).add (F32.dec 3 1)).isFinite = true ∧
    (F32.dec 3 1).isZero = false ∧ F32.two.isFinite = true := by decide +kernel

end Sys2Proof.Tests
end

section
/-! SUPPORT. Power-on: what the reset columns (R50 to R55) and the cleared spaces satisfy, for every state
that holds them, and the invariants of the machine at power-on. -/

namespace Sys2Proof.Machine

/-! ## Zero lies in the ranges of R45, R48 -/

@[simp] theorem F32.unit_zero : F32.unit F32.zero = true := by decide +kernel

@[simp] theorem inTurn_zero : inTurn F32.zero = true := by decide +kernel

/-! ## Fresh pieces of state -/

@[simp] theorem Delay.inside_reset (n : Nat) : Delay.inside n Delay.reset = decide (1 ≤ n) :=
  Bool.and_true _

/-- R153: a seed of 0 is replaced, so no seed gives a dead generator. -/
theorem Rng.ofSeed_ne_zero (seed : BitVec 32) : (Rng.ofSeed seed).s ≠ 0#32 := by
  unfold Rng.ofSeed
  split
  · decide
  · assumption

/-! ## Invariants of a state that holds the reset columns -/

/-- R49: a fresh cursor stands at 0, inside every line of at least one element. -/
theorem cursorsInside_of_reset {s : State} (hlen : s.cfg.lengthsLegal = true) (hfx : s.fx = FX.reset)
    (hrv : s.rv = Reverb.reset) : CursorsInside s = true := by
  simp only [Cfg.lengthsLegal, lrAll, fourAll, twoAll, Bool.and_eq_true] at hlen
  simp [CursorsInside, fourZip, twoZip, hfx, hrv, FX.reset, Reverb.reset, both, four, two, Comb.reset, hlen]

/-- R45: every envelope starts at 0. -/
theorem envelopesLegal_of_reset {s : State} (hk : s.k = Kick.reset s.cfg) (hsn : s.sn = Snare.reset s.cfg)
    (hht : s.ht = Hat.reset s.cfg) (hfx : s.fx = FX.reset) : EnvelopesLegal s = true := by
  simp [EnvelopesLegal, hk, hsn, hht, hfx, Kick.reset, Snare.reset, Hat.reset, FX.reset, DecayEnv.reset,
    ADEnv.reset, two]

/-- R48: every oscillator starts at phase 0. -/
theorem phasesLegal_of_reset {s : State} (hk : s.k = Kick.reset s.cfg) (hsn : s.sn = Snare.reset s.cfg)
    (hfx : s.fx = FX.reset) : PhasesLegal s = true := by
  simp [PhasesLegal, hk, hsn, hfx, Kick.reset, Snare.reset, FX.reset, Osc.reset, two]

/-- R48, R153: the kick's seed is made alive, the two others are alive by the configuration. -/
theorem noiseAlive_of_reset {s : State} (hseeds : s.cfg.seedsLegal = true) (hk : s.k = Kick.reset s.cfg)
    (hsn : s.sn = Snare.reset s.cfg) (hht : s.ht = Hat.reset s.cfg) : NoiseAlive s = true := by
  simp only [Cfg.seedsLegal, Bool.and_eq_true, decide_eq_true_eq] at hseeds
  obtain ⟨hsnare, hhat⟩ := hseeds
  simp [NoiseAlive, hk, hsn, hht, Kick.reset, Snare.reset, Hat.reset, Rng.ofSeed_ne_zero, hsnare, hhat]

/-- R52, R241: the cached cutoff of a fresh hat is a NaN, so the next sample computes its coefficient. -/
theorem hatCacheSound_of_reset {s : State} (hht : s.ht = Hat.reset s.cfg) : HatCacheSound s := by
  left
  rw [hht]
  rfl

/-! ## Invariants of a state whose spaces are cleared -/

/-- R40: an unlisted cell reads as its reset value, which a legal table keeps inside its range. -/
theorem paramsLegal_of_unwritten {s : State} (htable : s.cfg.tableLegal = true) (hpt : s.pt = []) (hp : s.p = []) :
    ParamsLegal s := by
  simp only [Cfg.tableLegal, Bool.and_eq_true] at htable
  obtain ⟨-, hresets⟩ := htable
  intro i hi
  have hrange := List.all_eq_true.mp hresets i (List.mem_range.mpr hi)
  simpa [State.ptAt_eq, State.par_eq, hpt, hp] using hrange

/-- R23, R24: the clear step has velocity 0. -/
theorem velocitiesLegal_of_cleared {s : State} (hpat : s.pat = []) : VelocitiesLegal s := by
  intro lane step _ _
  simp [State.patAt_eq, hpat, PatStep.clear]

theorem outputSafe_of_empty {s : State} (hout : s.out.len = 0) : OutputSafe s := by
  intro i v hv
  simp [OutBuf.at?, hout] at hv

/-! ## The configuration and the tempo at power-on -/

theorem Config.reference_lengthsLegal : Config.reference.lengthsLegal = true := by decide

theorem Config.reference_tableLegal : Config.reference.tableLegal = true := by decide +kernel

theorem Config.reference_seedsLegal : Config.reference.seedsLegal = true := by decide

theorem tempoLegal_reset : TempoLegal State.reset = true := by decide +kernel

/-- Settles O42: each invariant is read off the reset columns and the cleared spaces that power-on holds; the legality
of the reference configuration carries the cursors, the parameters and the noise states. -/
theorem resetMeetsTheInvariants : Obligations.ResetMeetsTheInvariants :=
  ⟨Memory.wf_reset,
    cursorsInside_of_reset Config.reference_lengthsLegal rfl rfl,
    tempoLegal_reset,
    paramsLegal_of_unwritten Config.reference_tableLegal rfl rfl,
    velocitiesLegal_of_cleared rfl,
    by simp [QueueBounded, State.reset],
    by simp [RenderLegal, State.reset],
    phasesLegal_of_reset rfl rfl rfl,
    noiseAlive_of_reset Config.reference_seedsLegal rfl rfl rfl,
    envelopesLegal_of_reset rfl rfl rfl rfl,
    outputSafe_of_empty rfl,
    hatCacheSound_of_reset rfl,
    Config.reference_lengthsLegal, Config.reference_tableLegal, Config.reference_seedsLegal,
    by decide, List.Perm.refl _, by decide⟩

end Sys2Proof.Machine
end

section
/-! SUPPORT. Micro-steps inverted: every way a step can go, as one inductive for the engine's micro-steps and one for the
words taken at a port (R80, R320, R345), and what each leaves alone. -/

namespace Sys2Proof.Machine

/-! One theorem after another, as in Tests/Slice0.lean: checked at once they ask for more threads than the memory limit
allows. -/
set_option Elab.async false

/-! ## The engine's micro-steps (R345 to R353) -/

/-- Everything one engine micro-step can do. -/
inductive Advance (s : State) : State → Prop where
  /-- No render is in flight. -/
  | idle (hr : s.g.render = none) : Advance s s
  /-- The queue is empty: on to the snapshot (R346). -/
  | drained (r : Render) (hr : s.g.render = some r) (hp : r.phase = .drain) (hq : s.q = []) :
      Advance s (s.withRender (some { r with phase := .snap }))
  /-- A queued word that is no command (R344). -/
  | discarded (w : W64) (rest : List W64) (hq : s.q = w :: rest) : Advance s { s with q := rest }
  /-- A queued `CMD_TOGGLESTEP` (R341). -/
  | toggled (w : W64) (rest : List W64) (hq : s.q = w :: rest) (lane step : BitVec 8) (on : Bool) :
      Advance s ({ s with q := rest }.toggleStep lane step on)
  /-- A queued `CMD_SETBPM` (R342). -/
  | tempoSet (w : W64) (rest : List W64) (hq : s.q = w :: rest) (bpm : F32) : Advance s ({ s with q := rest }.setBpm bpm)
  /-- A queued `CMD_SETPLAYING` (R343). -/
  | runSet (w : W64) (rest : List W64) (hq : s.q = w :: rest) (on : Bool) :
      Advance s ({ s with q := rest }.setPlaying on)
  /-- A snapshot step (R347). -/
  | snapped (r : Render) (hr : s.g.render = some r) (hp : r.phase = .snap) : Advance s (snapStep r s)
  /-- A tick (R350). -/
  | ticked (r : Render) (hr : s.g.render = some r) (hp : r.phase = .tick) : Advance s (tickStep r s)

theorem drainStep_advance {s t : State} {r : Render} (hr : s.g.render = some r) (hp : r.phase = .drain)
    (h : drainStep r s = .next t) : Advance s t := by
  rcases drainStep_cases r s with ⟨hq, he⟩ | ⟨w, rest, hq, hword⟩
  · cases he.symm.trans h
    exact .drained r hr hp hq
  · rcases hword with ⟨lane, step, on, -, he⟩ | ⟨bpm, -, he⟩ | ⟨on, -, he⟩ | ⟨-, he⟩
    · cases he.symm.trans h
      exact .toggled w rest hq lane step on
    · cases he.symm.trans h
      exact .tempoSet w rest hq bpm
    · cases he.symm.trans h
      exact .runSet w rest hq on
    · cases he.symm.trans h
      exact .discarded w rest hq

theorem engineStep_advance {s t : State} (h : engineStep s = .next t) : Advance s t := by
  rcases engineStep_cases s with ⟨hr, he⟩ | ⟨r, hr, hp, he⟩ | ⟨r, hr, hp, he⟩ | ⟨r, hr, hp, he⟩
  · cases he.symm.trans h
    exact .idle hr
  · exact drainStep_advance hr hp (he.symm.trans h)
  · cases he.symm.trans h
    exact .snapped r hr hp
  · cases he.symm.trans h
    exact .ticked r hr hp

/-! ## The words taken at a port (R320 to R348, R400, R401) -/

/-- Everything a word `x` that acts now can do. -/
inductive Taken (x : Presented) (s : State) : State → Prop where
  /-- Only an answer: a getter (R337 to R339), or a word that is ignored (R119, R322, R323, R404). -/
  | answered (port : Port) (v : BitVec 32) : Taken x s (s.respond port v)
  /-- A push (R336). -/
  | pushed : Taken x s (s.push x.word)
  /-- `PREPARE` with an accepted rate (R400). -/
  | prepared (sr : F32) (mb : BitVec 24) (hx : x.port = .ctrl) (hd : decode x.word = .ok (.prepare sr mb))
      (hsr : rateAccepted sr = true) : Taken x s ((s.prepare sr mb).respond .ctrl 0#32)
  /-- `RESET` in a prepared block (R401). -/
  | rewound (hx : x.port = .ctrl) (hd : decode x.word = .ok .reset) : Taken x s (s.resetPosition.respond .ctrl 0#32)
  /-- `SETBPM` in a prepared block (R331). -/
  | tempoSet (bpm : F32) : Taken x s ((s.setBpm bpm).respond .ctrl 0#32)
  /-- `SETPLAYING` in a prepared block (R335). -/
  | runSet (on : Bool) : Taken x s ((s.setPlaying on).respond .ctrl 0#32)
  /-- `SETSTEP` in a prepared block (R332). -/
  | stepSet (lane step : BitVec 8) (on : Bool) (v : F32) : Taken x s ((s.setStep lane step on v).respond .ctrl 0#32)
  /-- `CLEARPATTERN` in a prepared block (R333). -/
  | patternCleared : Taken x s (s.clearPattern.respond .ctrl 0#32)
  /-- `SETPARAM` in a prepared block (R334). -/
  | paramSet (index : BitVec 8) (v : F32) : Taken x s ((s.setParam index v).respond .ctrl 0#32)
  /-- `PROCESS` in a prepared block (R345). -/
  | accepted (nf : BitVec 32) (nc : BitVec 8) (hp : s.g.prepared = true) : Taken x s (s.accept nf nc)
  /-- `PROCESS` before `PREPARE` (R348). -/
  | zeroed (nf : BitVec 32) (nc : BitVec 8) (hp : s.g.prepared = false) (hr : s.g.render = none) :
      Taken x s ((s.writeZeros nf nc).respond .render 0#32)

theorem busy_eq_false {s : State} : s.g.busy = false ↔ s.g.render = none := by
  simp [Global.busy]

/-- A CTRL operation gated by `G.prepared` (R322) does what its effect does, or only answers. -/
theorem Taken.of_control {x : Presented} {s : State} {f : State → State} {v : BitVec 32}
    (h : Taken x s ((f s).respond .ctrl v)) : Taken x s (s.control f v) := by
  rcases s.control_cases f v with ⟨-, he⟩ | ⟨-, he⟩ <;> rw [he]
  · exact h
  · exact .answered .ctrl 0#32

/-- R320, R402: a word that must wait for a render acts only in an idle block. -/
theorem idle_of_mustWait {x : Presented} {s : State} (hw : mustWait x = true) (h : takesNow x s = true) :
    s.g.busy = false := by
  simpa [takesNow, hw] using h

theorem portInstr_eq {x : Presented} {i : Instr} (hd : decode x.word = .ok i) (hi : i.port = x.port) :
    portInstr x = some i := by
  simp [portInstr, hd, hi]

/-- R402: a held operation waits on its CTRL port. -/
theorem mustWait_of_holds {x : Presented} {i : Instr} (hx : x.port = .ctrl) (hd : decode x.word = .ok i)
    (hi : i.port = x.port) (hh : holds i = true) : mustWait x = true := by
  simp [mustWait, hx, portInstr_eq hd hi, hh]

theorem mustWait_of_render {x : Presented} (hx : x.port = .render) : mustWait x = true := by
  simp [mustWait, hx]

theorem execPrepare_taken {x : Presented} {s t : State} {sr : F32} {mb : BitVec 24} (ht : takesNow x s = true)
    (hx : x.port = .ctrl) (hd : decode x.word = .ok (.prepare sr mb)) (h : execPrepare sr mb s = .next t) :
    Taken x s t := by
  unfold execPrepare at h
  cases hsr : rateAccepted sr with
  | false =>
    simp only [hsr, Bool.false_eq_true, if_false] at h
    cases h
    exact .answered .ctrl 0#32
  | true =>
    have hidle := idle_of_mustWait (mustWait_of_holds hx hd hx.symm hsr) ht
    simp only [hsr, hidle, Bool.false_eq_true, if_false, if_true] at h
    cases h
    exact .prepared sr mb hx hd hsr

theorem execReset_taken {x : Presented} {s t : State} (ht : takesNow x s = true) (hx : x.port = .ctrl)
    (hd : decode x.word = .ok .reset) (h : execReset s = .next t) : Taken x s t := by
  have hidle := idle_of_mustWait (mustWait_of_holds hx hd hx.symm rfl) ht
  simp only [execReset, hidle, Bool.false_eq_true, if_false] at h
  cases h
  exact .of_control (.rewound hx hd)

theorem execProcess_taken {x : Presented} {s t : State} {nf : BitVec 32} {nc : BitVec 8} (ht : takesNow x s = true)
    (hx : x.port = .render) (h : execProcess nf nc s = .next t) : Taken x s t := by
  have hidle := idle_of_mustWait (mustWait_of_render hx) ht
  cases hp : s.g.prepared with
  | true =>
    simp only [execProcess, hidle, hp, Bool.false_eq_true, if_false, if_true] at h
    cases h
    exact .accepted nf nc hp
  | false =>
    simp only [execProcess, hidle, hp, Bool.false_eq_true, if_false] at h
    cases h
    exact .zeroed nf nc hp (busy_eq_false.mp hidle)

theorem exec_taken {x : Presented} {s t : State} {i : Instr} (ht : takesNow x s = true) (hx : x.port ≠ .cmd)
    (hd : decode x.word = .ok i) (hi : i.port = x.port) (h : exec i s = .next t) : Taken x s t := by
  cases i with
  | prepare sr mb => exact execPrepare_taken ht hi.symm hd h
  | reset => exact execReset_taken ht hi.symm hd h
  | setBpm bpm => cases h; exact .of_control (.tempoSet bpm)
  | setPlaying on => cases h; exact .of_control (.runSet on)
  | setStep lane step on v => cases h; exact .of_control (.stepSet lane step on v)
  | clearPattern => cases h; exact .of_control .patternCleared
  | setParam index v => cases h; exact .of_control (.paramSet index v)
  | getStepIndex => cases h; exact .of_control (.answered .ctrl _)
  | getBpm => cases h; exact .of_control (.answered .ctrl _)
  | isPlaying => cases h; exact .of_control (.answered .ctrl _)
  | cmdToggleStep lane step on => exact absurd hi.symm hx
  | cmdSetBpm bpm => exact absurd hi.symm hx
  | cmdSetPlaying on => exact absurd hi.symm hx
  | process nf nc => exact execProcess_taken ht hi.symm h

theorem present_taken {x : Presented} {s t : State} (ht : takesNow x s = true) (h : present x s = .next t) :
    Taken x s t := by
  rcases present_cases x s with ⟨-, he⟩ | ⟨i, hx, hd, hi, he⟩ | ⟨-, -, he⟩
  · cases he.symm.trans h
    exact .pushed
  · exact exec_taken ht hx hd hi (he.symm.trans h)
  · cases he.symm.trans h
    exact .answered x.port 0#32

/-! ## One step -/

/-- A step advances the engine and takes no word, or takes the head of the inbox. -/
theorem step_inv {s t : State} (h : step s = .next t) :
    (TakesNoWord s ∧ ∃ ib, Advance { s with inbox := ib } t) ∨
      ∃ x rest, s.inbox = x :: rest ∧ takesNow x s = true ∧ Taken x { s with inbox := rest } t := by
  rcases step_cases s with ⟨hin, he⟩ | ⟨x, rest, hin, hno, he⟩ | ⟨x, rest, hin, hnow, he⟩
  · refine .inl ⟨fun y ys hy => ?_, s.inbox, engineStep_advance (he.symm.trans h)⟩
    rw [hin] at hy
    cases hy
  · refine .inl ⟨fun y ys hy => ?_, _, engineStep_advance (he.symm.trans h)⟩
    rw [hin] at hy
    cases hy
    exact hno
  · exact .inr ⟨x, rest, hin, hnow, present_taken hnow (he.symm.trans h)⟩

/-- An invariant that the engine's micro-steps and the words taken keep, and that the inbox does not touch, is kept by
every step. -/
theorem step_keeps {P : State → Prop} (hinbox : ∀ s ib, P s → P { s with inbox := ib })
    (hadvance : ∀ s t, P s → Advance s t → P t) (htaken : ∀ x s t, P s → Taken x s t → P t) {s t : State}
    (hs : P s) (h : step s = .next t) : P t := by
  rcases step_inv h with ⟨-, ib, ha⟩ | ⟨x, rest, -, -, ht⟩
  · exact hadvance _ _ (hinbox s ib hs) ha
  · exact htaken x _ _ (hinbox s rest hs) ht

/-! ## What snapshot steps and ticks leave alone -/

/-- R349, R353: with no frame to render the `PROCESS` completes, else the ticks begin. -/
theorem afterSnapshot_cases (r : Render) (s : State) :
    (r.numFrames = 0#32 ∧ afterSnapshot r s = s.complete) ∨
      (r.numFrames ≠ 0#32 ∧ afterSnapshot r s = s.withRender (some { r with phase := .tick, snapLeft := [] })) := by
  unfold afterSnapshot
  by_cases h : r.numFrames = 0#32 <;> simp [h]

/-- R347, R349, R353: a snapshot step writes `P`, the render's progress and at completion a response. -/
theorem snapStep_frame (r : Render) (s : State) :
    ∃ p r' rs, snapStep r s = { s with p := p, g := { s.g with render := r' }, resps := rs } := by
  have hafter : ∀ u : State,
      ∃ r' rs, afterSnapshot r u = { u with g := { u.g with render := r' }, resps := rs } := fun u => by
    rcases afterSnapshot_cases r u with ⟨-, he⟩ | ⟨-, he⟩ <;> rw [he]
    · exact ⟨none, _, rfl⟩
    · exact ⟨_, u.resps, rfl⟩
  rcases snapStep_cases r s with ⟨-, he⟩ | ⟨i, -, he⟩ | ⟨i, j, rest, -, he⟩ <;> rw [he]
  · obtain ⟨r', rs, he⟩ := hafter s
    exact ⟨s.p, r', rs, he⟩
  · obtain ⟨r', rs, he⟩ := hafter (s.copyCell i)
    exact ⟨_, r', rs, he⟩
  · exact ⟨_, _, s.resps, rfl⟩

section
variable (r : Render) (s : State)

@[simp] theorem snapStep_cfg : (snapStep r s).cfg = s.cfg := by obtain ⟨_, _, _, h⟩ := snapStep_frame r s; rw [h]
@[simp] theorem snapStep_out : (snapStep r s).out = s.out := by obtain ⟨_, _, _, h⟩ := snapStep_frame r s; rw [h]
@[simp] theorem snapStep_prepared : (snapStep r s).g.prepared = s.g.prepared := by
  obtain ⟨_, _, _, h⟩ := snapStep_frame r s; rw [h]
@[simp] theorem snapStep_pat : (snapStep r s).pat = s.pat := by obtain ⟨_, _, _, h⟩ := snapStep_frame r s; rw [h]
@[simp] theorem snapStep_pt : (snapStep r s).pt = s.pt := by obtain ⟨_, _, _, h⟩ := snapStep_frame r s; rw [h]
@[simp] theorem snapStep_q : (snapStep r s).q = s.q := by obtain ⟨_, _, _, h⟩ := snapStep_frame r s; rw [h]
@[simp] theorem snapStep_t : (snapStep r s).t = s.t := by obtain ⟨_, _, _, h⟩ := snapStep_frame r s; rw [h]
@[simp] theorem snapStep_k : (snapStep r s).k = s.k := by obtain ⟨_, _, _, h⟩ := snapStep_frame r s; rw [h]
@[simp] theorem snapStep_sn : (snapStep r s).sn = s.sn := by obtain ⟨_, _, _, h⟩ := snapStep_frame r s; rw [h]
@[simp] theorem snapStep_ht : (snapStep r s).ht = s.ht := by obtain ⟨_, _, _, h⟩ := snapStep_frame r s; rw [h]
@[simp] theorem snapStep_fx : (snapStep r s).fx = s.fx := by obtain ⟨_, _, _, h⟩ := snapStep_frame r s; rw [h]
@[simp] theorem snapStep_rv : (snapStep r s).rv = s.rv := by obtain ⟨_, _, _, h⟩ := snapStep_frame r s; rw [h]
@[simp] theorem snapStep_ms : (snapStep r s).ms = s.ms := by obtain ⟨_, _, _, h⟩ := snapStep_frame r s; rw [h]

/-- R352, R353: after the tick, a tick step writes `OUT`, the render's progress and at completion a response. -/
theorem tickStep_cases :
    (r.n.toNat + 1 < r.numFrames.toNat ∧ tickStep r s =
        ((tick s).2.writeFrame r.n.toNat r.numChannels.toNat (tick s).1).withRender (some { r with n := r.n + 1#32 })) ∨
      (r.numFrames.toNat ≤ r.n.toNat + 1 ∧ tickStep r s =
        ((tick s).2.writeFrame r.n.toNat r.numChannels.toNat (tick s).1).complete) := by
  by_cases h : r.n.toNat + 1 < r.numFrames.toNat
  · exact .inl ⟨h, by simp [tickStep, h]⟩
  · exact .inr ⟨by omega, by simp [tickStep, h]⟩

theorem tickStep_frame : ∃ o r' rs,
    tickStep r s = { (tick s).2 with out := o, g := { s.g with render := r' }, resps := rs } := by
  rcases tickStep_cases r s with ⟨-, he⟩ | ⟨-, he⟩ <;> rw [he]
  · exact ⟨_, _, (tick s).2.resps, by rw [← tick_g s]; rfl⟩
  · exact ⟨_, none, _, by rw [← tick_g s]; rfl⟩

@[simp] theorem tickStep_cfg : (tickStep r s).cfg = s.cfg := by obtain ⟨_, _, _, h⟩ := tickStep_frame r s; simp [h]
@[simp] theorem tickStep_prepared : (tickStep r s).g.prepared = s.g.prepared := by
  obtain ⟨_, _, _, h⟩ := tickStep_frame r s; rw [h]
@[simp] theorem tickStep_pat : (tickStep r s).pat = s.pat := by obtain ⟨_, _, _, h⟩ := tickStep_frame r s; simp [h]
@[simp] theorem tickStep_pt : (tickStep r s).pt = s.pt := by obtain ⟨_, _, _, h⟩ := tickStep_frame r s; simp [h]
@[simp] theorem tickStep_p : (tickStep r s).p = s.p := by obtain ⟨_, _, _, h⟩ := tickStep_frame r s; simp [h]
@[simp] theorem tickStep_q : (tickStep r s).q = s.q := by obtain ⟨_, _, _, h⟩ := tickStep_frame r s; simp [h]
@[simp] theorem tickStep_t : (tickStep r s).t = s.t.tick s.g.sr := by
  obtain ⟨_, _, _, h⟩ := tickStep_frame r s; rw [h]; exact tick_transport s
@[simp] theorem tickStep_k : (tickStep r s).k = (tick s).2.k := by obtain ⟨_, _, _, h⟩ := tickStep_frame r s; rw [h]
@[simp] theorem tickStep_sn : (tickStep r s).sn = (tick s).2.sn := by
  obtain ⟨_, _, _, h⟩ := tickStep_frame r s; rw [h]
@[simp] theorem tickStep_ht : (tickStep r s).ht = (tick s).2.ht := by
  obtain ⟨_, _, _, h⟩ := tickStep_frame r s; rw [h]
@[simp] theorem tickStep_fx : (tickStep r s).fx = (tick s).2.fx := by
  obtain ⟨_, _, _, h⟩ := tickStep_frame r s; rw [h]
@[simp] theorem tickStep_rv : (tickStep r s).rv = (tick s).2.rv := by
  obtain ⟨_, _, _, h⟩ := tickStep_frame r s; rw [h]
@[simp] theorem tickStep_ms : (tickStep r s).ms = (tick s).2.ms := by
  obtain ⟨_, _, _, h⟩ := tickStep_frame r s; rw [h]

end

end Sys2Proof.Machine
end

section
/-! SUPPORT. Order: IEEE comparisons (R13) as an order on the values that are not NaN, and clamps (R331, R332, R334). -/

namespace Sys2Proof

/-! One theorem after another, as in Tests/Slice0.lean: checked at once they ask for more threads than the memory limit
allows. -/
set_option Elab.async false

/-! ## Comparisons through the order key -/

theorem Fmt.le_iff {f : Fmt} {a b : Nat} :
    f.le a b = true ↔ f.isNaN a = false ∧ f.isNaN b = false ∧ f.key a ≤ f.key b := by
  simp [Fmt.le, and_assoc]

theorem Fmt.lt_iff {f : Fmt} {a b : Nat} :
    f.lt a b = true ↔ f.isNaN a = false ∧ f.isNaN b = false ∧ f.key a < f.key b := by
  simp [Fmt.lt, and_assoc]

theorem Fmt.le_refl {f : Fmt} {a : Nat} (ha : f.isNaN a = false) : f.le a a = true :=
  Fmt.le_iff.mpr ⟨ha, ha, Int.le_refl _⟩

theorem Fmt.le_trans {f : Fmt} {a b c : Nat} (hab : f.le a b = true) (hbc : f.le b c = true) : f.le a c = true := by
  obtain ⟨ha, -, hab⟩ := Fmt.le_iff.mp hab
  obtain ⟨-, hc, hbc⟩ := Fmt.le_iff.mp hbc
  exact Fmt.le_iff.mpr ⟨ha, hc, Int.le_trans hab hbc⟩

theorem Fmt.le_of_lt {f : Fmt} {a b : Nat} (h : f.lt a b = true) : f.le a b = true := by
  obtain ⟨ha, hb, hab⟩ := Fmt.lt_iff.mp h
  exact Fmt.le_iff.mpr ⟨ha, hb, Int.le_of_lt hab⟩

theorem Fmt.le_of_not_lt {f : Fmt} {a b : Nat} (ha : f.isNaN a = false) (hb : f.isNaN b = false)
    (h : f.lt a b = false) : f.le b a = true := by
  refine Fmt.le_iff.mpr ⟨hb, ha, Int.not_lt.mp fun hlt => ?_⟩
  exact Bool.false_ne_true (h.symm.trans (Fmt.lt_iff.mpr ⟨ha, hb, hlt⟩))

/-! ## binary32 -/

theorem F32.le_refl {a : F32} (ha : a.isNaN = false) : a.le a = true := Fmt.le_refl ha

theorem F32.le_trans {a b c : F32} (hab : a.le b = true) (hbc : b.le c = true) : a.le c = true := Fmt.le_trans hab hbc

theorem F32.le_of_lt {a b : F32} (h : a.lt b = true) : a.le b = true := Fmt.le_of_lt h

theorem F32.le_of_not_lt {a b : F32} (ha : a.isNaN = false) (hb : b.isNaN = false) (h : a.lt b = false) :
    b.le a = true := Fmt.le_of_not_lt ha hb h

theorem F32.not_nan_of_le_left {a b : F32} (h : a.le b = true) : a.isNaN = false := (Fmt.le_iff.mp h).1

theorem F32.not_nan_of_le_right {a b : F32} (h : a.le b = true) : b.isNaN = false := (Fmt.le_iff.mp h).2.1

/-- The second argument bounds `min` (R13) if it is not a NaN. -/
theorem F32.min_le_right {a b : F32} (hb : b.isNaN = false) : (a.min b).le b = true := by
  unfold F32.min
  split
  · next h => exact F32.le_of_lt h
  · exact F32.le_refl hb

end Sys2Proof

namespace Sys2Proof.Machine

set_option Elab.async false

theorem F32.within_iff {lo hi x : F32} : F32.within lo hi x = true ↔ lo.le x = true ∧ x.le hi = true := by
  simp [F32.within]

theorem F32.le_of_within {lo hi x : F32} (h : F32.within lo hi x = true) : lo.le hi = true :=
  F32.le_trans (F32.within_iff.mp h).1 (F32.within_iff.mp h).2

/-- R331, R332, R334: a clamp to a range that is not empty ends inside it, for every operand but a NaN. -/
theorem clampTo_within {lo hi v : F32} (h : lo.le hi = true) (hv : v.isNaN = false) :
    F32.within lo hi (clampTo lo hi v) = true := by
  have hlo := F32.not_nan_of_le_left h
  have hhi := F32.not_nan_of_le_right h
  rcases clampTo_cases lo hi v with he | he | ⟨hl, hh, he⟩ <;> rw [he, F32.within_iff]
  · exact ⟨F32.le_refl hlo, h⟩
  · exact ⟨h, F32.le_refl hhi⟩
  · exact ⟨F32.le_of_not_lt hv hlo hl, F32.le_of_not_lt hhi hv hh⟩

end Sys2Proof.Machine
end

section
/-! SUPPORT. Invariants of the control state: the tempo, the pattern, the parameters, the queue and the render's progress
(R22 to R33), each kept by every step. -/

namespace Sys2Proof.Machine

set_option Elab.async false

/-! ## The tempo (R29) -/

theorem clampBpm_legal {bpm : F32} (h : bpm.isNaN = false) :
    F32.within Config.bpmMin Config.bpmMax (clampBpm bpm) = true :=
  clampTo_within (by decide +kernel) h

theorem tempoLegal_prepared : F32.within Config.bpmMin Config.bpmMax Transport.prepared.bpm = true := by
  decide +kernel

theorem tempoLegal_setBpm {s : State} (bpm : F32) (hs : TempoLegal s = true) : TempoLegal (s.setBpm bpm) = true := by
  rcases s.setBpm_cases bpm with ⟨-, he⟩ | ⟨hb, he⟩ <;> rw [he]
  · exact hs
  · exact clampBpm_legal hb

@[simp] theorem Transport.tick_bpm (sr : F32) (t : Transport) : (t.tick sr).bpm = t.bpm := by
  unfold Transport.tick
  split
  · split <;> rfl
  · rfl

theorem advance_keeps_tempo {s t : State} (hs : TempoLegal s = true) (h : Advance s t) : TempoLegal t = true := by
  cases h with
  | tempoSet w rest hq bpm => exact tempoLegal_setBpm bpm hs
  | _ => simpa [TempoLegal] using hs

theorem taken_keeps_tempo {x : Presented} {s t : State} (hs : TempoLegal s = true) (h : Taken x s t) :
    TempoLegal t = true := by
  cases h with
  | tempoSet bpm => exact tempoLegal_setBpm bpm hs
  | prepared sr mb hx hd hsr => exact tempoLegal_prepared
  | _ => simpa [TempoLegal] using hs

/-- Settles O32: a tempo is written only by a clamp to the range, and by `PREPARE`. -/
theorem stepKeepsTempoInRange : Obligations.StepKeepsTempoInRange := fun _ _ hs h =>
  step_keeps (P := fun s => TempoLegal s = true) (fun _ _ hs => hs) (fun _ _ => advance_keeps_tempo)
    (fun _ _ _ => taken_keeps_tempo) hs h

/-! ## The pattern (R24) -/

theorem clampVelocity_unit {v : F32} (h : v.isNaN = false) : F32.unit (clampVelocity v) = true :=
  clampTo_within (by decide +kernel) h

/-- What the pattern's invariant needs of the state: the pattern in canonical form and every velocity in [0, 1]. -/
def PatternLegal (s : State) : Prop := Store.wf (fun _ => PatStep.clear) s.pat = true ∧ VelocitiesLegal s

theorem patternLegal_congr {s t : State} (hs : PatternLegal s) (he : t.pat = s.pat) : PatternLegal t := by
  simpa [PatternLegal, VelocitiesLegal, State.patAt_eq, he] using hs

theorem patternLegal_cleared {s : State} (h : s.pat = []) : PatternLegal s :=
  ⟨by simp [h], velocitiesLegal_of_cleared h⟩

theorem patternLegal_putPat {s : State} {lane step : Nat} {e : PatStep} (hstep : step < 16)
    (he : F32.unit e.velocity = true) (hs : PatternLegal s) : PatternLegal (s.putPat lane step e) := by
  obtain ⟨hwf, hvel⟩ := hs
  refine ⟨State.wf_putPat s lane step e hwf, fun l st hl hst => ?_⟩
  rw [State.patAt_putPat s lane step l st e hstep hst hwf]
  split
  · exact he
  · exact hvel l st hl hst

theorem patternLegal_setStep {s : State} (lane step : BitVec 8) (on : Bool) (v : F32) (hs : PatternLegal s) :
    PatternLegal (s.setStep lane step on v) := by
  rcases s.setStep_cases lane step on v with ⟨-, he⟩ | ⟨⟨-, hstep, hv⟩, he⟩ <;> rw [he]
  · exact hs
  · exact patternLegal_putPat hstep (clampVelocity_unit hv) hs

theorem patternLegal_toggleStep {s : State} (lane step : BitVec 8) (on : Bool) (hs : PatternLegal s) :
    PatternLegal (s.toggleStep lane step on) := by
  rcases s.toggleStep_cases lane step on with ⟨-, he⟩ | ⟨⟨hlane, hstep⟩, he⟩ <;> rw [he]
  · exact hs
  · exact patternLegal_putPat hstep (hs.2 _ _ hlane hstep) hs

theorem advance_keeps_pattern {s t : State} (hs : PatternLegal s) (h : Advance s t) : PatternLegal t := by
  cases h with
  | toggled w rest hq lane step on => exact patternLegal_toggleStep lane step on (patternLegal_congr hs rfl)
  | _ => exact patternLegal_congr hs (by simp)

theorem taken_keeps_pattern {x : Presented} {s t : State} (hs : PatternLegal s) (h : Taken x s t) :
    PatternLegal t := by
  cases h with
  | stepSet lane step on v => exact patternLegal_congr (patternLegal_setStep lane step on v hs) rfl
  | prepared sr mb hx hd hsr => exact patternLegal_cleared rfl
  | patternCleared => exact patternLegal_cleared rfl
  | _ => exact patternLegal_congr hs (by simp)

/-- Settles O34: a velocity is written only by a clamp to [0, 1], and a toggle keeps the one that is there. -/
theorem stepKeepsVelocitiesInRange : Obligations.StepKeepsVelocitiesInRange := by
  intro s t hwf hs h
  have hpat : PatternLegal s := by
    simp only [Memory.wf, Bool.and_eq_true] at hwf
    obtain ⟨⟨⟨⟨⟨hpat, -⟩, -⟩, -⟩, -⟩, -⟩ := hwf
    exact ⟨hpat, hs⟩
  exact (step_keeps (P := PatternLegal) (fun _ _ hs => hs) (fun _ _ => advance_keeps_pattern)
    (fun _ _ _ => taken_keeps_pattern) hpat h).2

/-! ## The parameter table and its snapshot (R25, R26) -/

theorem ptRange_nonempty {c : Cfg} (hc : c.tableLegal = true) {i : Nat} (hi : i < c.nparam) :
    F32.within (ptMin c i) (ptMax c i) (ptReset c i) = true := by
  simp only [Cfg.tableLegal, Bool.and_eq_true] at hc
  obtain ⟨-, hresets⟩ := hc
  exact List.all_eq_true.mp hresets i (List.mem_range.mpr hi)

theorem clampParam_within {c : Cfg} (hc : c.tableLegal = true) {i : Nat} (hi : i < c.nparam) {v : F32}
    (hv : v.isNaN = false) : F32.within (ptMin c i) (ptMax c i) (clampParam c i v) = true :=
  clampTo_within (F32.le_of_within (ptRange_nonempty hc hi)) hv

/-- What the parameters' invariant needs of the state: a legal table, both spaces in canonical form, every cell inside
its range. -/
structure TableLegal (s : State) : Prop where
  table : s.cfg.tableLegal = true
  pt_wf : Store.wf (ptReset s.cfg) s.pt = true
  p_wf : Store.wf (ptReset s.cfg) s.p = true
  params : ParamsLegal s

theorem tableLegal_congr {s t : State} (hs : TableLegal s) (hcfg : t.cfg = s.cfg) (hpt : t.pt = s.pt)
    (hp : t.p = s.p) : TableLegal t where
  table := by rw [hcfg]; exact hs.table
  pt_wf := by rw [hcfg, hpt]; exact hs.pt_wf
  p_wf := by rw [hcfg, hp]; exact hs.p_wf
  params := by
    have := hs.params
    simpa [ParamsLegal, State.ptAt_eq, State.par_eq, hcfg, hpt, hp] using this

theorem tableLegal_cleared {s : State} (hc : s.cfg.tableLegal = true) (hpt : s.pt = []) (hp : s.p = []) :
    TableLegal s where
  table := hc
  pt_wf := by simp [hpt]
  p_wf := by simp [hp]
  params := paramsLegal_of_unwritten hc hpt hp

/-- A cell of `PT` after a write: the value written there, the old ones elsewhere. -/
theorem ptAt_put {s : State} (hwf : Store.wf (ptReset s.cfg) s.pt = true) (i j : Nat) (v : F32) :
    State.ptAt { s with pt := Store.put (ptReset s.cfg i) s.pt i v } j = if j = i then v else s.ptAt j := by
  split
  · next h => subst h; exact Store.get_put_same (ptReset s.cfg) s.pt j v hwf
  · next h => exact Store.get_put_ne _ _ _ _ _ _ h

/-- A cell of `P` after a snapshot copy: that of `PT` there, the old ones elsewhere. -/
theorem par_copyCell {s : State} (hwf : Store.wf (ptReset s.cfg) s.p = true) (i j : Nat) :
    (s.copyCell i).par j = if j = i then s.ptAt i else s.par j := by
  split
  · next h => subst h; exact Store.get_put_same (ptReset s.cfg) s.p j _ hwf
  · next h => exact Store.get_put_ne _ _ _ _ _ _ h

theorem tableLegal_setParam {s : State} (index : BitVec 8) (v : F32) (hs : TableLegal s) :
    TableLegal (s.setParam index v) := by
  have hwf := State.wf_setParam s index v hs.pt_wf
  rcases s.setParam_cases index v with ⟨-, he⟩ | ⟨⟨hi, hv⟩, he⟩ <;> rw [he] at hwf ⊢
  · exact hs
  · refine ⟨hs.table, hwf, hs.p_wf, fun j hj => ⟨?_, (hs.params j hj).2⟩⟩
    rw [ptAt_put hs.pt_wf]
    split
    · next h => subst h; exact clampParam_within hs.table hi hv
    · exact (hs.params j hj).1

theorem tableLegal_copyCell {s : State} (i : Nat) (hs : TableLegal s) : TableLegal (s.copyCell i) where
  table := hs.table
  pt_wf := hs.pt_wf
  p_wf := State.wf_copyCell s i hs.p_wf
  params j hj := by
    refine ⟨(hs.params j hj).1, ?_⟩
    rw [par_copyCell hs.p_wf]
    split
    · next h => subst h; exact (hs.params j hj).1
    · exact (hs.params j hj).2

theorem tableLegal_afterSnapshot {s : State} (r : Render) (hs : TableLegal s) : TableLegal (afterSnapshot r s) := by
  rcases afterSnapshot_cases r s with ⟨-, he⟩ | ⟨-, he⟩ <;> rw [he] <;> exact tableLegal_congr hs rfl rfl rfl

theorem tableLegal_snapStep {s : State} (r : Render) (hs : TableLegal s) : TableLegal (snapStep r s) := by
  rcases snapStep_cases r s with ⟨-, he⟩ | ⟨i, -, he⟩ | ⟨i, j, rest, -, he⟩ <;> rw [he]
  · exact tableLegal_afterSnapshot r hs
  · exact tableLegal_afterSnapshot r (tableLegal_copyCell i hs)
  · exact tableLegal_congr (tableLegal_copyCell i hs) rfl rfl rfl

theorem advance_keeps_table {s t : State} (hs : TableLegal s) (h : Advance s t) : TableLegal t := by
  cases h with
  | snapped r hr hp => exact tableLegal_snapStep r hs
  | _ => exact tableLegal_congr hs (by simp) (by simp) (by simp)

theorem taken_keeps_table {x : Presented} {s t : State} (hs : TableLegal s) (h : Taken x s t) : TableLegal t := by
  cases h with
  | paramSet index v => exact tableLegal_congr (tableLegal_setParam index v hs) rfl rfl rfl
  | prepared sr mb hx hd hsr => exact tableLegal_cleared hs.table rfl rfl
  | _ => exact tableLegal_congr hs (by simp) (by simp) (by simp)

/-- Settles O33: a cell of `PT` is written only by a clamp to its range, a cell of `P` only by a copy. -/
theorem stepKeepsParametersInRange : Obligations.StepKeepsParametersInRange := by
  intro s t hc hwf hs h
  have htable : TableLegal s := by
    simp only [Memory.wf, Bool.and_eq_true] at hwf
    obtain ⟨⟨⟨⟨⟨-, hpt⟩, hp⟩, -⟩, -⟩, -⟩ := hwf
    exact ⟨hc, hpt, hp, hs⟩
  exact (step_keeps (P := TableLegal) (fun _ _ hs => tableLegal_congr hs rfl rfl rfl) (fun _ _ => advance_keeps_table)
    (fun _ _ _ => taken_keeps_table) htable h).params

/-! ## The queue (R27) -/

theorem queueBounded_iff {s : State} : QueueBounded s = true ↔ s.q.length ≤ s.cfg.cmdqDepth := by
  simp [QueueBounded]

theorem queueBounded_push {s : State} (w : W64) (hs : QueueBounded s = true) : QueueBounded (s.push w) = true := by
  rw [queueBounded_iff] at hs ⊢
  rcases s.push_cases w with ⟨⟨-, hroom⟩, he⟩ | ⟨-, he⟩ <;> rw [he]
  · simp only [State.respond_q, State.respond_cfg, List.length_append, List.length_singleton]
    omega
  · exact hs

/-- The queue without its head is within the bound, whatever the drained word does to the rest of the state. -/
theorem queueBounded_pop {s t : State} {w : W64} {rest : List W64} (hs : QueueBounded s = true) (hq : s.q = w :: rest)
    (ht : t.q = rest) (hcfg : t.cfg = s.cfg) : QueueBounded t = true := by
  rw [queueBounded_iff] at hs ⊢
  rw [ht, hcfg]
  rw [hq, List.length_cons] at hs
  omega

theorem advance_keeps_queueBounded {s t : State} (hs : QueueBounded s = true) (h : Advance s t) :
    QueueBounded t = true := by
  cases h with
  | idle hr => exact hs
  | drained r hr hp hq => exact hs
  | snapped r hr hp => simpa [QueueBounded] using hs
  | ticked r hr hp => simpa [QueueBounded] using hs
  | discarded w rest hq => exact queueBounded_pop hs hq rfl rfl
  | toggled w rest hq lane step on => exact queueBounded_pop hs hq (by simp) (by simp)
  | tempoSet w rest hq bpm => exact queueBounded_pop hs hq (by simp) (by simp)
  | runSet w rest hq on => exact queueBounded_pop hs hq (by simp) (by simp)

theorem taken_keeps_queueBounded {x : Presented} {s t : State} (hs : QueueBounded s = true) (h : Taken x s t) :
    QueueBounded t = true := by
  cases h with
  | pushed => exact queueBounded_push x.word hs
  | prepared sr mb hx hd hsr => simp [QueueBounded]
  | _ => simpa [queueBounded_iff] using hs

/-- Settles O35: only a push makes the queue longer, and a push into a full queue is dropped. -/
theorem stepKeepsQueueBounded : Obligations.StepKeepsQueueBounded := fun _ _ hs h =>
  step_keeps (P := fun s => QueueBounded s = true) (fun _ _ hs => hs) (fun _ _ => advance_keeps_queueBounded)
    (fun _ _ _ => taken_keeps_queueBounded) hs h

/-! ## The render's progress (R22, R345) -/

theorem renderLegal_some {s : State} {r : Render} (hr : s.g.render = some r) :
    RenderLegal s = Render.legal s r := by
  simp [RenderLegal, hr]

theorem renderLegal_none {s : State} (hr : s.g.render = none) : RenderLegal s = true := by
  simp [RenderLegal, hr]

/-- The progress is legal or not by `G`, `OUT` and the configuration alone. -/
theorem renderLegal_congr {s t : State} (hcfg : t.cfg = s.cfg) (hg : t.g = s.g) (hout : t.out = s.out) :
    RenderLegal t = RenderLegal s := by
  simp only [RenderLegal, Render.legal, hcfg, hg, hout]

/-- R345: a negative count is 0, so the count read as two's complement is below `2^31`. -/
theorem frameCount_lt (nf : BitVec 32) : (frameCount nf).toNat < 2 ^ 31 := by
  unfold frameCount
  split
  · simp
  · next h => simpa [BitVec.msb_eq_decide] using h

/-- What a legal drain holds (R345). -/
theorem legal_drain {s : State} {r : Render} (hp : r.phase = .drain) :
    Render.legal s r = true ↔ s.g.prepared = true ∧ r.numFrames.toNat < 2 ^ 31 ∧ r.n = 0#32 ∧ s.out.len = 0 ∧
      r.snapLeft = s.cfg.snapOrder := by
  simp [Render.legal, hp, and_assoc]

/-- What a legal snapshot holds (R347). -/
theorem legal_snap {s : State} {r : Render} (hp : r.phase = .snap) :
    Render.legal s r = true ↔ s.g.prepared = true ∧ r.numFrames.toNat < 2 ^ 31 ∧ r.n = 0#32 ∧ s.out.len = 0 ∧
      r.snapLeft ≠ [] := by
  simp [Render.legal, hp, and_assoc]

/-- What legal ticks hold (R345, R352). -/
theorem legal_tick {s : State} {r : Render} (hp : r.phase = .tick) :
    Render.legal s r = true ↔ s.g.prepared = true ∧ r.numFrames.toNat < 2 ^ 31 ∧ r.n.toNat < r.numFrames.toNat ∧
      s.out.len = r.n.toNat * r.numChannels.toNat := by
  simp [Render.legal, hp, and_assoc]

theorem renderLegal_accept {s : State} (nf : BitVec 32) (nc : BitVec 8) (hp : s.g.prepared = true) :
    RenderLegal (s.accept nf nc) = true := by
  rw [renderLegal_some rfl, legal_drain rfl]
  exact ⟨hp, frameCount_lt nf, rfl, rfl, rfl⟩

/-- R346: the queue is empty, and the snapshot has every cell of the order before it. -/
theorem renderLegal_drained {s : State} {r : Render} (horder : s.cfg.snapOrder ≠ []) (hr : s.g.render = some r)
    (hp : r.phase = .drain) (hs : RenderLegal s = true) :
    RenderLegal (s.withRender (some { r with phase := .snap })) = true := by
  rw [renderLegal_some hr, legal_drain hp] at hs
  obtain ⟨hprep, hnf, hn, hlen, hleft⟩ := hs
  rw [renderLegal_some rfl, legal_snap rfl]
  exact ⟨hprep, hnf, hn, hlen, hleft ▸ horder⟩

/-- R349: after the last cell the block completes, or a frame is to be rendered and none is done. -/
theorem renderLegal_afterSnapshot {s : State} {r : Render} (hp : r.phase = .snap) (hs : Render.legal s r = true) :
    RenderLegal (afterSnapshot r s) = true := by
  obtain ⟨hprep, hnf, hn, hlen, -⟩ := (legal_snap hp).mp hs
  rcases afterSnapshot_cases r s with ⟨-, he⟩ | ⟨hne, he⟩ <;> rw [he]
  · exact renderLegal_none rfl
  · rw [renderLegal_some rfl, legal_tick rfl]
    have hpos : 0 < r.numFrames.toNat := by
      have := mt BitVec.eq_of_toNat_eq hne
      simp only [BitVec.toNat_ofNat] at this
      omega
    exact ⟨hprep, hnf, by simpa [hn] using hpos, by simp [hn, hlen]⟩

theorem renderLegal_snapStep {s : State} {r : Render} (hr : s.g.render = some r) (hp : r.phase = .snap)
    (hs : RenderLegal s = true) : RenderLegal (snapStep r s) = true := by
  rw [renderLegal_some hr] at hs
  rcases snapStep_cases r s with ⟨-, he⟩ | ⟨i, -, he⟩ | ⟨i, j, rest, -, he⟩ <;> rw [he]
  · exact renderLegal_afterSnapshot hp hs
  · exact renderLegal_afterSnapshot (s := s.copyCell i) hp hs
  · obtain ⟨hprep, hnf, hn, hlen, -⟩ := (legal_snap hp).mp hs
    rw [renderLegal_some rfl]
    exact (legal_snap (r := { r with snapLeft := j :: rest }) hp).mpr ⟨hprep, hnf, hn, hlen, List.cons_ne_nil _ _⟩

/-- R352: from `n` whole frames, one more makes `n + 1`. -/
theorem writeFrame_len {s : State} {n nc : Nat} (o : LR F32) (h : s.out.len = n * nc) :
    (s.writeFrame n nc o).out.len = (n + 1) * nc := by
  have hlen := frameElems_length nc o
  rw [State.writeFrame_out, OutBuf.writeAll_len, hlen, h, Nat.add_mul, Nat.one_mul]
  split
  · next he => rw [he, List.length_nil] at hlen; omega
  · omega

theorem renderLegal_tickStep {s : State} {r : Render} (hr : s.g.render = some r) (hp : r.phase = .tick)
    (hs : RenderLegal s = true) : RenderLegal (tickStep r s) = true := by
  rw [renderLegal_some hr, legal_tick hp] at hs
  obtain ⟨hprep, hnf, -, hlen⟩ := hs
  rcases tickStep_cases r s with ⟨hmore, he⟩ | ⟨-, he⟩ <;> rw [he]
  · have hn : (r.n + 1#32).toNat = r.n.toNat + 1 := by
      rw [BitVec.toNat_add, BitVec.toNat_ofNat]
      omega
    have hlen' := writeFrame_len (tick s).1 ((congrArg OutBuf.len (tick_out s)).trans hlen)
    rw [renderLegal_some rfl]
    refine (legal_tick (r := { r with n := r.n + 1#32 }) hp).mpr ⟨by simpa using hprep, hnf, ?_, ?_⟩
    · exact hn ▸ hmore
    · exact hn ▸ hlen'
  · exact renderLegal_none rfl

theorem advance_keeps_renderLegal {s t : State} (horder : s.cfg.snapOrder ≠ []) (hs : RenderLegal s = true)
    (h : Advance s t) : RenderLegal t = true := by
  cases h with
  | drained r hr hp hq => exact renderLegal_drained horder hr hp hs
  | snapped r hr hp => exact renderLegal_snapStep hr hp hs
  | ticked r hr hp => exact renderLegal_tickStep hr hp hs
  | _ => exact (renderLegal_congr (by simp) (by simp) (by simp)).trans hs

theorem taken_keeps_renderLegal {x : Presented} {s t : State} (hs : RenderLegal s = true) (h : Taken x s t) :
    RenderLegal t = true := by
  cases h with
  | prepared sr mb hx hd hsr => exact renderLegal_none rfl
  | accepted nf nc hp => exact renderLegal_accept nf nc hp
  | zeroed nf nc hp hr => exact renderLegal_none hr
  | _ => exact (renderLegal_congr (by simp) (by simp) (by simp)).trans hs

/-- Settles O36: each micro-step of a legal render leaves the next stage's legal progress, and no word that acts while a
render is in flight touches it. -/
theorem stepKeepsRenderProgressLegal : Obligations.StepKeepsRenderProgressLegal := by
  intro s t horder hs h
  rcases step_inv h with ⟨-, ib, ha⟩ | ⟨x, rest, -, -, ht⟩
  · exact advance_keeps_renderLegal (s := { s with inbox := ib }) horder hs ha
  · exact taken_keeps_renderLegal (s := { s with inbox := rest }) hs ht

end Sys2Proof.Machine
end

section
/-! SUPPORT. Rules about the whole machine: what sets `G.prepared` (R21), what moves the position (R30 to R33), what an
unprepared block depends on (R21, R322), and the reset columns (R50 to R55). -/

namespace Sys2Proof.Machine

/-! One theorem after another, as in Tests/Slice0.lean: checked at once they ask for more threads than the memory limit
allows. -/
set_option Elab.async false

/-! ## `G.prepared` (R21) -/

theorem advance_prepared {s t : State} (h : Advance s t) : t.g.prepared = s.g.prepared := by
  cases h <;> simp

theorem taken_prepared {x : Presented} {s t : State} (h : Taken x s t) :
    t.g.prepared = s.g.prepared ∨ (t.g.prepared = true ∧ x.port = .ctrl ∧
      ∃ sr mb, rateAccepted sr = true ∧ decode x.word = .ok (.prepare sr mb)) := by
  cases h with
  | prepared sr mb hx hd hsr => exact .inr ⟨rfl, hx, sr, mb, hsr, hd⟩
  | _ => simp

/-- Settles O43: of everything a step can do, only an accepted `PREPARE` writes the flag, and it writes true. -/
theorem onlyPrepareSetsPrepared : Obligations.OnlyPrepareSetsPrepared := by
  refine ⟨rfl, rfl, fun s t h => ?_⟩
  have hcause : t.g.prepared = s.g.prepared ∨ (t.g.prepared = true ∧ TakesPrepare s) := by
    rcases step_inv h with ⟨-, ib, ha⟩ | ⟨x, rest, hin, hnow, ht⟩
    · exact .inl (advance_prepared (s := { s with inbox := ib }) ha)
    · rcases taken_prepared ht with hsame | ⟨hset, hx, sr, mb, hsr, hd⟩
      · exact .inl hsame
      · exact .inr ⟨hset, sr, mb, hsr, x, rest, hin, hx, hd, hnow⟩
  rcases hcause with hsame | ⟨hset, hprep⟩
  · exact ⟨fun hs => hsame.trans hs, fun hs ht => absurd (hs.symm.trans (hsame.symm.trans ht)) Bool.false_ne_true⟩
  · exact ⟨fun _ => hset, fun _ _ => hprep⟩

/-! ## The position (R30 to R33) -/

/-- Two transports at the same position. -/
structure SamePosition (t u : Transport) : Prop where
  stepIndex : u.stepIndex = t.stepIndex
  currentFrame : u.currentFrame = t.currentFrame
  nextStepFrame : u.nextStepFrame = t.nextStepFrame

theorem SamePosition.refl (t : Transport) : SamePosition t t := ⟨rfl, rfl, rfl⟩

theorem SamePosition.of_eq {t u : Transport} (h : u = t) : SamePosition t u := h ▸ .refl u

theorem samePosition_setBpm (s : State) (bpm : F32) : SamePosition s.t (s.setBpm bpm).t := by
  rcases s.setBpm_cases bpm with ⟨-, he⟩ | ⟨-, he⟩ <;> rw [he] <;> exact ⟨rfl, rfl, rfl⟩

/-- R304: a stopped transport does not move in a tick. -/
theorem Transport.tick_stopped {t : Transport} (sr : F32) (h : t.playing = false) : t.tick sr = t := by
  simp [Transport.tick, h]

/-- The engine moves the position only in a tick of a playing block. -/
theorem advance_position {s t : State} (h : Advance s t) : SamePosition s.t t.t ∨
    (t.t = s.t.tick s.g.sr ∧ ∃ r, s.g.render = some r ∧ r.phase = .tick ∧ s.t.playing = true) := by
  cases h with
  | ticked r hr hp =>
    cases hplay : s.t.playing with
    | false => exact .inl (.of_eq (by simp [Transport.tick_stopped _ hplay]))
    | true => exact .inr ⟨tickStep_t r s, r, hr, hp, rfl⟩
  | tempoSet w rest hq bpm => exact .inl (samePosition_setBpm { s with q := rest } bpm)
  | runSet w rest hq on => exact .inl ⟨rfl, rfl, rfl⟩
  | _ => exact .inl (.of_eq (by simp))

/-- A word moves the position only if it is an accepted `PREPARE` or a `RESET`. -/
theorem taken_position {x : Presented} {s t : State} (h : Taken x s t) : SamePosition s.t t.t ∨
    (x.port = .ctrl ∧ ((∃ sr mb, rateAccepted sr = true ∧ decode x.word = .ok (.prepare sr mb)) ∨
      decode x.word = .ok .reset)) := by
  cases h with
  | prepared sr mb hx hd hsr => exact .inr ⟨hx, .inl ⟨sr, mb, hsr, hd⟩⟩
  | rewound hx hd => exact .inr ⟨hx, .inr hd⟩
  | tempoSet bpm => exact .inl (samePosition_setBpm s bpm)
  | runSet on => exact .inl ⟨rfl, rfl, rfl⟩
  | _ => exact .inl (.of_eq (by simp))

/-- Everything a step can do to the position. -/
theorem step_position {s t : State} (h : step s = .next t) :
    SamePosition s.t t.t ∨ TakesPrepare s ∨ TakesControl s .reset ∨
      (TakesNoWord s ∧ t.t = s.t.tick s.g.sr ∧ ∃ r, s.g.render = some r ∧ r.phase = .tick ∧ s.t.playing = true) := by
  rcases step_inv h with ⟨hno, ib, ha⟩ | ⟨x, rest, hin, hnow, ht⟩
  · rcases advance_position ha with hsame | ⟨htick, hplay⟩
    · exact .inl hsame
    · exact .inr (.inr (.inr ⟨hno, htick, hplay⟩))
  · rcases taken_position ht with hsame | ⟨hx, ⟨sr, mb, hsr, hd⟩ | hd⟩
    · exact .inl hsame
    · exact .inr (.inl ⟨sr, mb, hsr, x, rest, hin, hx, hd, hnow⟩)
    · exact .inr (.inr (.inl ⟨x, rest, hin, hx, hd, hnow⟩))

/-- Settles O45: a step leaves the position as it is, or has one of the three causes. -/
theorem onlyPlayingTicksMoveThePosition : Obligations.OnlyPlayingTicksMoveThePosition := by
  intro s t h hmoved
  rcases step_position h with ⟨hi, hf, hn⟩ | hprep | hreset | ⟨hno, -, htick⟩
  · exact absurd hmoved (by simp [hi, hf, hn])
  · exact .inl hprep
  · exact .inr (.inl hreset)
  · exact .inr (.inr ⟨hno, htick⟩)

/-! ## An unprepared idle block (R21, R322) -/

theorem present_push {x : Presented} (hx : x.port = .cmd) (s : State) : present x s = .next (s.push x.word) := by
  simp [present, hx]

theorem present_some {x : Presented} {i : Instr} (hx : x.port ≠ .cmd) (hi : portInstr x = some i) (s : State) :
    present x s = exec i s := by
  unfold present
  split
  · contradiction
  · rw [hi]

theorem present_none {x : Presented} (hx : x.port ≠ .cmd) (hi : portInstr x = none) (s : State) :
    present x s = .next (s.ignore x.port) := by
  unfold present
  split
  · contradiction
  · rw [hi]

/-- R101: a port takes only its own operations. -/
theorem portInstr_port {x : Presented} {i : Instr} (h : portInstr x = some i) : i.port = x.port := by
  unfold portInstr at h
  split at h
  · split at h
    · next hi => cases h; exact hi
    · cases h
  · cases h

theorem push_unprepared {s : State} (hp : s.g.prepared = false) (w : W64) : s.push w = s.ignore .cmd := by
  rcases s.push_cases w with ⟨⟨hprep, -⟩, -⟩ | ⟨-, he⟩
  · exact absurd (hp.symm.trans hprep) Bool.false_ne_true
  · exact he

theorem control_unprepared {s : State} (hp : s.g.prepared = false) (f : State → State) (v : BitVec 32) :
    s.control f v = s.ignore .ctrl := by
  rcases s.control_cases f v with ⟨hprep, -⟩ | ⟨-, he⟩
  · exact absurd (hp.symm.trans hprep) Bool.false_ne_true
  · exact he

/-- R322, R404: before `PREPARE` a CTRL operation is an accepted `PREPARE` or is ignored. -/
theorem exec_ctrl_unprepared {i : Instr} (hi : i.port = .ctrl) :
    (∃ sr mb, ∀ s : State, s.g.busy = false → exec i s = .next ((s.prepare sr mb).respond .ctrl 0#32)) ∨
      ∀ s : State, s.g.prepared = false → s.g.busy = false → exec i s = .next (s.ignore .ctrl) := by
  cases i with
  | prepare sr mb =>
    cases hsr : rateAccepted sr with
    | true => exact .inl ⟨sr, mb, fun s hb => by simp [exec, execPrepare, hsr, hb]⟩
    | false => exact .inr fun s _ _ => by simp [exec, execPrepare, hsr]
  | reset => exact .inr fun s hp hb => by simp [exec, execReset, hb, control_unprepared hp]
  | cmdToggleStep lane step on => cases hi
  | cmdSetBpm bpm => cases hi
  | cmdSetPlaying on => cases hi
  | process nf nc => cases hi
  | _ => exact .inr fun s hp _ => congrArg _ (control_unprepared hp _ _)

/-- R348: before `PREPARE` the RENDER port's one operation writes zeros. -/
theorem exec_render_unprepared {i : Instr} (hi : i.port = .render) :
    ∃ nf nc, ∀ s : State, s.g.prepared = false → s.g.busy = false →
      exec i s = .next ((s.writeZeros nf nc).respond .render 0#32) := by
  cases i with
  | process nf nc => exact ⟨nf, nc, fun s hp hb => by simp [exec, execProcess, hp, hb]⟩
  | _ => cases hi

/-- R322, R348, R400: in an unprepared idle block the word alone decides between an answer of 0, a `PREPARE` and a block
of zeros. -/
theorem present_unprepared (x : Presented) :
    (∀ s : State, s.g.prepared = false → s.g.busy = false → present x s = .next (s.ignore x.port)) ∨
      (∃ sr mb, ∀ s : State, s.g.busy = false → present x s = .next ((s.prepare sr mb).respond .ctrl 0#32)) ∨
      ∃ nf nc, ∀ s : State, s.g.prepared = false → s.g.busy = false →
        present x s = .next ((s.writeZeros nf nc).respond .render 0#32) := by
  by_cases hcmd : x.port = .cmd
  · exact .inl fun s hp _ => by rw [present_push hcmd, push_unprepared hp, hcmd]
  cases hi : portInstr x with
  | none => exact .inl fun s _ _ => present_none hcmd hi s
  | some i =>
    have hport := portInstr_port hi
    cases hx : x.port with
    | cmd => exact absurd hx hcmd
    | ctrl =>
      rcases exec_ctrl_unprepared (hport.trans hx) with ⟨sr, mb, hexec⟩ | hexec
      · exact .inr (.inl ⟨sr, mb, fun s hb => (present_some hcmd hi s).trans (hexec s hb)⟩)
      · exact .inl fun s hp hb => (present_some hcmd hi s).trans (hexec s hp hb)
    | render =>
      obtain ⟨nf, nc, hexec⟩ := exec_render_unprepared (hport.trans hx)
      exact .inr (.inr ⟨nf, nc, fun s hp hb => (present_some hcmd hi s).trans (hexec s hp hb)⟩)

theorem step_idle {s : State} (hin : s.inbox = []) (hb : s.g.busy = false) : step s = .next s := by
  rcases engineStep_cases s with ⟨-, he⟩ | ⟨r, hr, -⟩ | ⟨r, hr, -⟩ | ⟨r, hr, -⟩
  · simpa [step, hin] using he
  all_goals simp [busy_eq_false.mp hb] at hr

theorem step_takes {s : State} {x : Presented} {rest : List Presented} (hin : s.inbox = x :: rest)
    (hb : s.g.busy = false) : step s = present x { s with inbox := rest } := by
  simp [step, hin, takesNow, hb]

/-- R400: `PREPARE` writes every piece of state but the configuration, the inbox, the responses and `OUT`. -/
theorem prepare_congr {s s' : State} (h : SameOutside s s') (sr : F32) (mb : BitVec 24) :
    s.prepare sr mb = s'.prepare sr mb := by
  obtain ⟨hcfg, hin, hresps, hout, -, -⟩ := h
  simp [State.prepare, State.resetSound, hcfg, hin, hresps, hout]

/-- Settles O47: in both blocks the same case of `present_unprepared` holds; an answer and a block of zeros write what
the two agree on, and `PREPARE` writes the rest. -/
theorem unpreparedStateIsNeverRead : Obligations.UnpreparedStateIsNeverRead := by
  intro s s' t t' hsame hp hb h h'
  have hsame' := hsame
  obtain ⟨hcfg, hin, hresps, hout, hprep, hrender⟩ := hsame
  have hp' : s'.g.prepared = false := hprep.symm.trans hp
  have hb' : s'.g.busy = false := by rwa [Global.busy, ← hrender]
  cases hinbox : s.inbox with
  | nil =>
    cases (step_idle hinbox hb).symm.trans h
    cases (step_idle (hin.symm.trans hinbox) hb').symm.trans h'
    exact ⟨hsame', fun ht => absurd (hp.symm.trans ht) Bool.false_ne_true⟩
  | cons x rest =>
    rw [step_takes hinbox hb] at h
    rw [step_takes (hin.symm.trans hinbox) hb'] at h'
    have hrest : SameOutside { s with inbox := rest } { s' with inbox := rest } :=
      ⟨hcfg, rfl, hresps, hout, hprep, hrender⟩
    rcases present_unprepared x with hpres | ⟨sr, mb, hpres⟩ | ⟨nf, nc, hpres⟩
    · cases (hpres { s with inbox := rest } hp hb).symm.trans h
      cases (hpres { s' with inbox := rest } hp' hb').symm.trans h'
      exact ⟨⟨hcfg, rfl, by simp [hresps], hout, hprep, hrender⟩,
        fun ht => absurd (hp.symm.trans ht) Bool.false_ne_true⟩
    · cases (hpres { s with inbox := rest } hb).symm.trans h
      cases (hpres { s' with inbox := rest } hb').symm.trans h'
      rw [prepare_congr hrest sr mb]
      exact ⟨⟨rfl, rfl, rfl, rfl, rfl, rfl⟩, fun _ => rfl⟩
    · cases (hpres { s with inbox := rest } hp hb).symm.trans h
      cases (hpres { s' with inbox := rest } hp' hb').symm.trans h'
      exact ⟨⟨hcfg, rfl, by simp [hresps], rfl, hprep, hrender⟩,
        fun ht => absurd (hp.symm.trans ht) Bool.false_ne_true⟩

/-! ## The reset columns (R50 to R55) -/

/-- R50, R153: the kick's noise state starts from its seed, and from 1 in place of 0. -/
theorem Rng.ofSeed_cases (seed : BitVec 32) :
    (seed ≠ 0#32 → Rng.ofSeed seed = ⟨seed⟩) ∧ (seed = 0#32 → Rng.ofSeed seed = ⟨1#32⟩) := by
  by_cases h : seed = 0#32 <;> simp [Rng.ofSeed, h]

/-- Settles O14: the columns are the definitions' own, but for the kick's noise state, which depends on the seed. -/
theorem resetColumns : Obligations.ResetColumns := by
  intro c
  obtain ⟨halive, hzero⟩ := Rng.ofSeed_cases c.kickSeed0
  refine ⟨⟨(Rng.ofSeed c.kickSeed0).s, fun h => by rw [halive h], fun h => by rw [hzero h], rfl⟩,
    rfl, rfl, rfl, rfl, rfl, fun i => ?_⟩
  exact Store.get_nil F32.zero i

end Sys2Proof.Machine
end

section
/-! SUPPORT. Sound: what a step does to the voices, the effects and the master: nothing, their reset columns, or one tick
(R350, R400, R401); and what a tick does to each record. -/

namespace Sys2Proof.Machine

/-! One theorem after another, as in Tests/Slice0.lean: checked at once they ask for more threads than the memory limit
allows. -/
set_option Elab.async false

/-! ## A step on the sound records -/

/-- Two states with the same configuration, voices, effects and master. -/
structure SameSound (s t : State) : Prop where
  cfg : t.cfg = s.cfg
  k : t.k = s.k
  sn : t.sn = s.sn
  ht : t.ht = s.ht
  fx : t.fx = s.fx
  rv : t.rv = s.rv
  ms : t.ms = s.ms

theorem advance_sound {s t : State} (h : Advance s t) : SameSound s t ∨ SameSound (tick s).2 t := by
  cases h with
  | ticked r hr hp => exact .inr ⟨by simp, by simp, by simp, by simp, by simp, by simp, by simp⟩
  | _ => exact .inl ⟨by simp, by simp, by simp, by simp, by simp, by simp, by simp⟩

theorem taken_sound {x : Presented} {s t : State} (h : Taken x s t) : SameSound s t ∨ SameSound s.resetSound t := by
  cases h with
  | prepared sr mb hx hd hsr => exact .inr ⟨rfl, rfl, rfl, rfl, rfl, rfl, rfl⟩
  | rewound hx hd => exact .inr ⟨rfl, rfl, rfl, rfl, rfl, rfl, rfl⟩
  | _ => exact .inl ⟨by simp, by simp, by simp, by simp, by simp, by simp, by simp⟩

/-- Everything a step can do to the voices, the effects and the master. -/
theorem step_sound {s t : State} (h : step s = .next t) :
    SameSound s t ∨ SameSound s.resetSound t ∨ ∃ ib, SameSound (tick { s with inbox := ib }).2 t := by
  rcases step_inv h with ⟨-, ib, ha⟩ | ⟨x, rest, -, -, ht⟩
  · rcases advance_sound ha with ⟨hcfg, hk, hsn, hht, hfx, hrv, hms⟩ | htick
    · exact .inl ⟨hcfg, hk, hsn, hht, hfx, hrv, hms⟩
    · exact .inr (.inr ⟨ib, htick⟩)
  · rcases taken_sound ht with ⟨hcfg, hk, hsn, hht, hfx, hrv, hms⟩ | ⟨hcfg, hk, hsn, hht, hfx, hrv, hms⟩
    · exact .inl ⟨hcfg, hk, hsn, hht, hfx, hrv, hms⟩
    · exact .inr (.inl ⟨hcfg, hk, hsn, hht, hfx, hrv, hms⟩)

/-- A property of the sound records that holds of the reset columns and after a tick is kept by every step. -/
theorem step_keeps_sound {P : State → Prop} {s t : State} (hcongr : ∀ u v, P u → SameSound u v → P v)
    (hreset : P s.resetSound) (htick : ∀ ib, P (tick { s with inbox := ib }).2) (hs : P s)
    (h : step s = .next t) : P t := by
  rcases step_sound h with hsame | hsame | ⟨ib, hsame⟩
  · exact hcongr _ _ hs hsame
  · exact hcongr _ _ hreset hsame
  · exact hcongr _ _ (htick ib) hsame

/-! ## A tick on the sound records -/

theorem tick_sound (s : State) : SameSound (soundStep (transportStep s)).2 (tick s).2 := by
  simp only [tick]
  split <;> exact ⟨rfl, rfl, rfl, rfl, rfl, rfl, rfl⟩

theorem transportStep_par (s : State) : (transportStep s).par = s.par := by
  funext i
  simp [State.par_eq]

/-- `TransportStep` triggers the lanes of a step, or leaves the sound as it is (R301, R305). -/
theorem transportStep_sound (s : State) :
    SameSound s (transportStep s) ∨ SameSound (triggerStep s.t.stepIndex.toNat s) (transportStep s) := by
  rcases transportStep_cases s with ⟨-, he⟩ | ⟨-, he⟩ <;> rw [he]
  · exact .inl ⟨rfl, rfl, rfl, rfl, rfl, rfl, rfl⟩
  · exact .inr ⟨rfl, rfl, rfl, rfl, rfl, rfl, rfl⟩

/-- A property of the sound records that the triggers and one sample of the engine keep is kept by a tick. -/
theorem tick_keeps_sound {P : State → Prop} {s : State} (hcongr : ∀ u v, P u → SameSound u v → P v)
    (htrigger : P (triggerStep s.t.stepIndex.toNat s))
    (hsound : P (transportStep s) → P (soundStep (transportStep s)).2) (hs : P s) : P (tick s).2 := by
  refine hcongr _ _ (hsound ?_) (tick_sound s)
  rcases transportStep_sound s with hsame | hsame
  · exact hcongr _ _ hs hsame
  · exact hcongr _ _ htrigger hsame

section
variable (s : State)

theorem soundStep_k : (soundStep s).2.k = (s.k.process s.cfg s.par s.g.sr).2 := rfl
theorem soundStep_sn : (soundStep s).2.sn = (s.sn.process s.cfg s.par s.g.sr).2 := rfl
theorem soundStep_ht : (soundStep s).2.ht = (s.ht.process s.cfg s.par s.g.sr).2 := rfl
theorem soundStep_fx : (soundStep s).2.fx =
    (s.fx.process s.cfg s.par s.g.sr (s.k.process s.cfg s.par s.g.sr).1).2 := rfl
theorem soundStep_rv : (soundStep s).2.rv =
    (s.rv.process s.cfg s.par (s.k.process s.cfg s.par s.g.sr).1).2 := rfl

end

theorem triggerStep_k (st : Nat) (s : State) : (triggerStep st s).k = s.k ∨
    (triggerStep st s).k = s.k.trigger s.cfg s.par (s.patAt 0 st).velocity := by
  simp only [triggerStep]
  split
  · exact .inr rfl
  · exact .inl rfl

theorem triggerStep_sn (st : Nat) (s : State) : (triggerStep st s).sn = s.sn ∨
    (triggerStep st s).sn = s.sn.trigger (s.patAt 1 st).velocity := by
  simp only [triggerStep]
  split
  · exact .inr rfl
  · exact .inl rfl

theorem triggerStep_ht (st : Nat) (s : State) : (triggerStep st s).ht = s.ht ∨
    (triggerStep st s).ht = s.ht.trigger (s.patAt 2 st).velocity := by
  simp only [triggerStep]
  split
  · exact .inr rfl
  · exact .inl rfl

theorem triggerStep_fx (st : Nat) (s : State) :
    (triggerStep st s).fx = s.fx ∨ (triggerStep st s).fx = s.fx.trigger := by
  simp only [triggerStep]
  split
  · exact .inr rfl
  · exact .inl rfl

/-! ## The voices (R192, R210, R230) -/

section
variable (c : Cfg) (p : Nat → F32) (sr : F32)

theorem Kick.process_cases (k : Kick) :
    (k.process c p sr).2 = k ∨ (k.process c p sr).2 = (k.sample c p sr).2 := by
  cases h : k.active <;> simp [Kick.process, h]

theorem Snare.process_cases (sn : Snare) :
    (sn.process c p sr).2 = sn ∨ (sn.process c p sr).2 = (sn.sample c p sr).2 := by
  cases h : sn.active <;> simp [Snare.process, h]

theorem Hat.process_cases (ht : Hat) :
    (ht.process c p sr).2 = ht ∨ (ht.process c p sr).2 = (ht.sample c p sr).2 := by
  cases h : ht.active <;> simp [Hat.process, h]

variable (k : Kick)

/-! Of the kick's stages (R210), one writes each phase, one each envelope, and three draw noise. -/
theorem Kick.sample_phBody : ∃ f, (k.sample c p sr).2.phBody = ⟨adv k.phBody.phase f sr⟩ := ⟨_, rfl⟩
theorem Kick.sample_phTail : ∃ f, (k.sample c p sr).2.phTail = ⟨adv k.phTail.phase f sr⟩ := ⟨_, rfl⟩
theorem Kick.sample_phL : ∃ f g, (k.sample c p sr).2.phL =
    ⟨⟨adv k.phL.j0.phase f sr⟩, ⟨adv k.phL.j1.phase g sr⟩⟩ := ⟨_, _, rfl⟩
theorem Kick.sample_lfo : ∃ f, (k.sample c p sr).2.lfo = ⟨adv k.lfo.phase f sr⟩ := ⟨_, rfl⟩
theorem Kick.sample_envAmp : (k.sample c p sr).2.envAmp = (k.envAmp.next (p Param.K_AMP_DECAY)).2 := rfl
theorem Kick.sample_envPitch : (k.sample c p sr).2.envPitch = (k.envPitch.next (p Param.K_PITCH_DECAY)).2 := rfl
theorem Kick.sample_envDrive : (k.sample c p sr).2.envDrive = (k.envDrive.next (p Param.K_DRIVE_DECAY)).2 := rfl
theorem Kick.sample_envTail : (k.sample c p sr).2.envTail = (k.envTail.next (p Param.K_TAIL_DECAY)).2 := rfl
theorem Kick.sample_envL : (k.sample c p sr).2.envL =
    ⟨(k.envL.j0.next (p Param.L1_ATTACK) (p Param.L1_DECAY)).2,
      (k.envL.j1.next (p Param.L2_ATTACK) (p Param.L2_DECAY)).2⟩ := rfl
theorem Kick.sample_rng : ∃ kind1 kind2 ph1 ph2, (k.sample c p sr).2.rng =
    (wave c kind2 ph2 (wave c kind1 ph1 (white c k.rng).2).2).2 := ⟨_, _, _, _, rfl⟩

theorem Hat.refresh_frame (ht : Hat) : ∃ hz a, ht.refresh p sr = { ht with cutHz := hz, coef := a } := by
  unfold Hat.refresh
  split
  · exact ⟨_, _, rfl⟩
  · exact ⟨ht.cutHz, ht.coef, rfl⟩

theorem Hat.sample_envAmp (ht : Hat) : (ht.sample c p sr).2.envAmp = (ht.envAmp.next (p Param.H_DECAY)).2 := by
  obtain ⟨_, _, he⟩ := Hat.refresh_frame p sr ht
  simp only [Hat.sample, he]

theorem Hat.sample_rng (ht : Hat) : (ht.sample c p sr).2.rng = (white c ht.rng).2 := by
  obtain ⟨_, _, he⟩ := Hat.refresh_frame p sr ht
  simp only [Hat.sample, he]

end

/-! ## The FX chain (R250, R251) -/

theorem bypassIf_keeps {P : FX → Prop} {neutral : Bool} {stage : LR F32 → FX → LR F32 × FX} {r : LR F32 × FX}
    (hstage : ∀ x f, P f → P (stage x f).2) (hr : P r.2) : P (bypassIf neutral stage r).2 := by
  unfold bypassIf
  split
  · exact hr
  · exact hstage _ _ hr

/-- R250: a property of `FX` that each of the five stages with memory keeps is kept by the chain. -/
theorem FX.process_keeps {P : FX → Prop} (c : Cfg) (p : Nat → F32) (sr k : F32) {fx : FX}
    (hshifter : ∀ x f, P f → P (f.shifter c p sr x).2) (hdiffuser : ∀ x f, P f → P (f.diffuser c p x).2)
    (hott : ∀ x f, P f → P (f.ott c p sr x).2) (htransient : ∀ x f, P f → P (f.transient p x).2)
    (htone : ∀ x f, P f → P (f.toneFilter p sr x).2) (h : P fx) : P (fx.process c p sr k).2 := by
  unfold FX.process
  split
  · exact h
  · exact bypassIf_keeps htone <| bypassIf_keeps htransient <| bypassIf_keeps hott <|
      bypassIf_keeps (fun _ _ hf => hf) <| bypassIf_keeps hdiffuser <| bypassIf_keeps (fun _ _ hf => hf) <|
      bypassIf_keeps hshifter h

end Sys2Proof.Machine
end

section
/-! SUPPORT. Invariants of the sound: phases, noise, delay cursors (R48, R49, R73), each kept by every step. -/

namespace Sys2Proof.Machine

set_option Elab.async false

/-! ## Phases (R48, R164) -/

/-- R164: whatever its argument, a wrapped phase is in its turn. -/
@[simp] theorem inTurn_wrap2pi (p : F32) : inTurn (wrap2pi p) = true := by
  unfold wrap2pi
  split
  · assumption
  · split
    · assumption
    · exact inTurn_zero

@[simp] theorem inTurn_adv (phase f sr : F32) : inTurn (adv phase f sr) = true := inTurn_wrap2pi _

/-- The kick's five phases are in their turn. -/
def Kick.PhasesIn (k : Kick) : Prop :=
  inTurn k.phBody.phase = true ∧ inTurn k.phTail.phase = true ∧ inTurn k.phL.j0.phase = true ∧
    inTurn k.phL.j1.phase = true ∧ inTurn k.lfo.phase = true

theorem phasesLegal_iff {s : State} : PhasesLegal s = true ↔
    Kick.PhasesIn s.k ∧ inTurn s.sn.phase.phase = true ∧ inTurn s.fx.shOsc.phase = true := by
  simp [PhasesLegal, Kick.PhasesIn, and_assoc]

theorem Kick.phasesIn_trigger (c : Cfg) (p : Nat → F32) (v : F32) (k : Kick) : (k.trigger c p v).PhasesIn := by
  simp [Kick.PhasesIn, Kick.trigger]

theorem Kick.phasesIn_sample (c : Cfg) (p : Nat → F32) (sr : F32) (k : Kick) : (k.sample c p sr).2.PhasesIn := by
  obtain ⟨_, hbody⟩ := k.sample_phBody c p sr
  obtain ⟨_, htail⟩ := k.sample_phTail c p sr
  obtain ⟨_, _, hlayers⟩ := k.sample_phL c p sr
  obtain ⟨_, hlfo⟩ := k.sample_lfo c p sr
  simp [Kick.PhasesIn, hbody, htail, hlayers, hlfo]

theorem Kick.phasesIn_process (c : Cfg) (p : Nat → F32) (sr : F32) {k : Kick} (h : k.PhasesIn) :
    (k.process c p sr).2.PhasesIn := by
  rcases k.process_cases c p sr with he | he <;> rw [he]
  · exact h
  · exact k.phasesIn_sample c p sr

theorem Snare.inTurn_process (c : Cfg) (p : Nat → F32) (sr : F32) {sn : Snare} (h : inTurn sn.phase.phase = true) :
    inTurn (sn.process c p sr).2.phase.phase = true := by
  rcases sn.process_cases c p sr with he | he <;> rw [he]
  · exact h
  · exact inTurn_adv _ _ _

theorem FX.inTurn_process (c : Cfg) (p : Nat → F32) (sr k : F32) {fx : FX} (h : inTurn fx.shOsc.phase = true) :
    inTurn (fx.process c p sr k).2.shOsc.phase = true :=
  FX.process_keeps (P := fun f => inTurn f.shOsc.phase = true) c p sr k (fun _ _ _ => inTurn_adv _ _ _)
    (fun _ _ hf => hf) (fun _ _ hf => hf) (fun _ _ hf => hf) (fun _ _ hf => hf) h

theorem phasesLegal_congr (u v : State) (hu : PhasesLegal u = true) (h : SameSound u v) : PhasesLegal v = true := by
  simpa only [PhasesLegal, h.k, h.sn, h.fx] using hu

theorem phasesLegal_triggerStep {s : State} (st : Nat) (hs : PhasesLegal s = true) :
    PhasesLegal (triggerStep st s) = true := by
  obtain ⟨hk, hsn, hfx⟩ := phasesLegal_iff.mp hs
  refine phasesLegal_iff.mpr ⟨?_, ?_, ?_⟩
  · rcases triggerStep_k st s with he | he <;> rw [he]
    · exact hk
    · exact Kick.phasesIn_trigger _ _ _ _
  · rcases triggerStep_sn st s with he | he <;> rw [he]
    · exact hsn
    · exact inTurn_zero
  · rcases triggerStep_fx st s with he | he <;> rw [he] <;> exact hfx

theorem phasesLegal_soundStep {s : State} (hs : PhasesLegal s = true) : PhasesLegal (soundStep s).2 = true := by
  obtain ⟨hk, hsn, hfx⟩ := phasesLegal_iff.mp hs
  exact phasesLegal_iff.mpr
    ⟨Kick.phasesIn_process _ _ _ hk, Snare.inTurn_process _ _ _ hsn, FX.inTurn_process _ _ _ _ hfx⟩

theorem phasesLegal_tick {s : State} (hs : PhasesLegal s = true) : PhasesLegal (tick s).2 = true :=
  tick_keeps_sound (P := fun u => PhasesLegal u = true) phasesLegal_congr (phasesLegal_triggerStep _ hs)
    phasesLegal_soundStep hs

/-- Settles O37: every phase written is 0 or the result of `wrap2pi`. -/
theorem stepKeepsPhasesInTurn : Obligations.StepKeepsPhasesInTurn := fun s _ hs h =>
  step_keeps_sound (P := fun u => PhasesLegal u = true) phasesLegal_congr (phasesLegal_of_reset rfl rfl rfl)
    (fun ib => phasesLegal_tick (s := { s with inbox := ib }) hs) hs h

/-! ## Noise (R48, R151, R153) -/

/-- Bit `i` of a word that equals itself shifted left is bit `i - a`, and so in the end none. -/
theorem eq_zero_of_eq_shiftLeft {w a : Nat} {x : BitVec w} (ha : 0 < a) (h : x = x <<< a) : x = 0#w := by
  have hbits : ∀ i, x.getLsbD i = false := by
    intro i
    induction i using Nat.strongRecOn with
    | ind i ih =>
      rw [h, BitVec.getLsbD_shiftLeft]
      by_cases hi : i < a
      · simp [hi]
      · simp [ih (i - a) (by omega)]
  exact BitVec.eq_of_getLsbD_eq fun i _ => by simp [hbits i]

/-- Bit `i` of a word that equals itself shifted right is bit `i + b`, and so in the end one above the word. -/
theorem eq_zero_of_eq_ushiftRight {w b : Nat} {x : BitVec w} (hb : 0 < b) (h : x = x >>> b) : x = 0#w := by
  have hbits : ∀ d i, w - i = d → x.getLsbD i = false := by
    intro d
    induction d using Nat.strongRecOn with
    | ind d ih =>
      intro i hd
      by_cases hi : i < w
      · rw [h, BitVec.getLsbD_ushiftRight]
        exact ih (w - (b + i)) (by omega) (b + i) rfl
      · exact BitVec.getLsbD_of_ge x i (by omega)
  exact BitVec.eq_of_getLsbD_eq fun i _ => by simp [hbits _ i rfl]

theorem xorShl_ne_zero {w a : Nat} {x : BitVec w} (ha : 0 < a) (hx : x ≠ 0#w) : x ^^^ (x <<< a) ≠ 0#w :=
  fun h => hx (eq_zero_of_eq_shiftLeft ha (BitVec.xor_eq_zero_iff.mp h))

theorem xorShr_ne_zero {w b : Nat} {x : BitVec w} (hb : 0 < b) (hx : x ≠ 0#w) : x ^^^ (x >>> b) ≠ 0#w :=
  fun h => hx (eq_zero_of_eq_ushiftRight hb (BitVec.xor_eq_zero_iff.mp h))

/-- R151: each of the three xor-shifts is one-to-one, so no state but 0 leads to 0. -/
theorem xorshift32_ne_zero {c : Cfg} (hc : c.shiftsReference = true) {x : BitVec 32} (hx : x ≠ 0#32) :
    xorshift32 c x ≠ 0#32 := by
  simp only [Cfg.shiftsReference, Bool.and_eq_true, decide_eq_true_eq] at hc
  obtain ⟨⟨hA, hB⟩, hC⟩ := hc
  exact xorShl_ne_zero (by omega) (xorShr_ne_zero (by omega) (xorShl_ne_zero (by omega) hx))

theorem white_alive {c : Cfg} (hc : c.shiftsReference = true) {r : Rng} (hr : r.s ≠ 0#32) :
    (white c r).2.s ≠ 0#32 := xorshift32_ne_zero hc hr

theorem wave_alive {c : Cfg} (hc : c.shiftsReference = true) (kind : OscType) (ph : F32) {r : Rng}
    (hr : r.s ≠ 0#32) : (wave c kind ph r).2.s ≠ 0#32 := by
  cases kind with
  | noise => exact white_alive hc hr
  | sine => exact hr
  | triangle => exact hr
  | square => exact hr

theorem Kick.process_alive {c : Cfg} (hc : c.shiftsReference = true) (p : Nat → F32) (sr : F32) {k : Kick}
    (hk : k.rng.s ≠ 0#32) : (k.process c p sr).2.rng.s ≠ 0#32 := by
  rcases k.process_cases c p sr with he | he <;> rw [he]
  · exact hk
  · obtain ⟨kind1, kind2, ph1, ph2, hrng⟩ := k.sample_rng c p sr
    rw [hrng]
    exact wave_alive hc kind2 ph2 (wave_alive hc kind1 ph1 (white_alive hc hk))

theorem Snare.process_alive {c : Cfg} (hc : c.shiftsReference = true) (p : Nat → F32) (sr : F32) {sn : Snare}
    (h : sn.rng.s ≠ 0#32) : (sn.process c p sr).2.rng.s ≠ 0#32 := by
  rcases sn.process_cases c p sr with he | he <;> rw [he]
  · exact h
  · exact white_alive hc h

theorem Hat.process_alive {c : Cfg} (hc : c.shiftsReference = true) (p : Nat → F32) (sr : F32) {ht : Hat}
    (h : ht.rng.s ≠ 0#32) : (ht.process c p sr).2.rng.s ≠ 0#32 := by
  rcases ht.process_cases c p sr with he | he <;> rw [he]
  · exact h
  · rw [ht.sample_rng c p sr]
    exact white_alive hc h

theorem noiseAlive_iff {s : State} :
    NoiseAlive s = true ↔ s.k.rng.s ≠ 0#32 ∧ s.sn.rng.s ≠ 0#32 ∧ s.ht.rng.s ≠ 0#32 := by
  simp [NoiseAlive, and_assoc]

theorem noiseAlive_congr (u v : State) (hu : NoiseAlive u = true) (h : SameSound u v) : NoiseAlive v = true := by
  simpa only [NoiseAlive, h.k, h.sn, h.ht] using hu

/-- R153: the kick's trigger reseeds, and a seed of 0 is replaced; the other triggers draw nothing. -/
theorem noiseAlive_triggerStep {s : State} (st : Nat) (hs : NoiseAlive s = true) :
    NoiseAlive (triggerStep st s) = true := by
  obtain ⟨hk, hsn, hht⟩ := noiseAlive_iff.mp hs
  refine noiseAlive_iff.mpr ⟨?_, ?_, ?_⟩
  · rcases triggerStep_k st s with he | he <;> rw [he]
    · exact hk
    · exact Rng.ofSeed_ne_zero _
  · rcases triggerStep_sn st s with he | he <;> rw [he] <;> exact hsn
  · rcases triggerStep_ht st s with he | he <;> rw [he] <;> exact hht

theorem noiseAlive_soundStep {s : State} (hc : s.cfg.shiftsReference = true) (hs : NoiseAlive s = true) :
    NoiseAlive (soundStep s).2 = true := by
  obtain ⟨hk, hsn, hht⟩ := noiseAlive_iff.mp hs
  exact noiseAlive_iff.mpr
    ⟨Kick.process_alive hc _ _ hk, Snare.process_alive hc _ _ hsn, Hat.process_alive hc _ _ hht⟩

theorem noiseAlive_tick {s : State} (hc : s.cfg.shiftsReference = true) (hs : NoiseAlive s = true) :
    NoiseAlive (tick s).2 = true :=
  tick_keeps_sound (P := fun u => NoiseAlive u = true) noiseAlive_congr (noiseAlive_triggerStep _ hs)
    (noiseAlive_soundStep (by rwa [transportStep_cfg])) hs

/-- Settles O38: a state is stepped by `xorshift32`, reseeded, or given its seed by `PREPARE` and `RESET`. -/
theorem stepKeepsNoiseAlive : Obligations.StepKeepsNoiseAlive := fun s _ hc hseeds hs h =>
  step_keeps_sound (P := fun u => NoiseAlive u = true) noiseAlive_congr
    (noiseAlive_of_reset (s := s.resetSound) hseeds rfl rfl rfl)
    (fun ib => noiseAlive_tick (s := { s with inbox := ib }) hc hs) hs h

/-! ## Delay cursors (R49, R73) -/

/-- Every length of a bank is at least 1. -/
def fourPos (n : Four Nat) : Prop := 1 ≤ n.j0 ∧ 1 ≤ n.j1 ∧ 1 ≤ n.j2 ∧ 1 ≤ n.j3

/-- Both lengths of a bank are at least 1. -/
def twoPos (n : Two Nat) : Prop := 1 ≤ n.j0 ∧ 1 ≤ n.j1

theorem lengthsLegal_iff {c : Cfg} : c.lengthsLegal = true ↔
    (fourPos c.revCombLen.l ∧ fourPos c.revCombLen.r) ∧ (twoPos c.revApLen.l ∧ twoPos c.revApLen.r) ∧
      fourPos c.difLen.l ∧ fourPos c.difLen.r := by
  simp [Cfg.lengthsLegal, lrAll, fourAll, twoAll, fourPos, twoPos, and_assoc]

theorem fourZip_iff {α β : Type} {P : α → β → Bool} {a : Four α} {b : Four β} : fourZip P a b = true ↔
    P a.j0 b.j0 = true ∧ P a.j1 b.j1 = true ∧ P a.j2 b.j2 = true ∧ P a.j3 b.j3 = true := by
  simp [fourZip, and_assoc]

theorem twoZip_iff {α β : Type} {P : α → β → Bool} {a : Two α} {b : Two β} : twoZip P a b = true ↔
    P a.j0 b.j0 = true ∧ P a.j1 b.j1 = true := by
  simp [twoZip]

/-- A comb's line is inside its length. -/
def Comb.inside (n : Nat) (cb : Comb) : Bool := Delay.inside n cb.line

theorem diffuse_inside {n : Four Nat} (hn : fourPos n) (g d x : F32) {ap : Four Delay}
    (h : fourZip Delay.inside n ap = true) : fourZip Delay.inside n (diffuse n g d x ap).2 = true := by
  obtain ⟨hn0, hn1, hn2, hn3⟩ := hn
  obtain ⟨h0, h1, h2, h3⟩ := fourZip_iff.mp h
  exact fourZip_iff.mpr ⟨Delay.inside_push _ _ _ hn0 h0, Delay.inside_push _ _ _ hn1 h1,
    Delay.inside_push _ _ _ hn2 h2, Delay.inside_push _ _ _ hn3 h3⟩

theorem reverbChannel_inside {nc : Four Nat} {na : Two Nat} (hnc : fourPos nc) (hna : twoPos na) (c : Cfg)
    (inp fb dp : F32) {cb : Four Comb} {ap : Two Delay} (hcb : fourZip Comb.inside nc cb = true)
    (hap : twoZip Delay.inside na ap = true) :
    fourZip Comb.inside nc (reverbChannel c inp fb dp nc na cb ap).2.1 = true ∧
      twoZip Delay.inside na (reverbChannel c inp fb dp nc na cb ap).2.2 = true := by
  obtain ⟨hn0, hn1, hn2, hn3⟩ := hnc
  obtain ⟨hm0, hm1⟩ := hna
  obtain ⟨h0, h1, h2, h3⟩ := fourZip_iff.mp hcb
  obtain ⟨ha0, ha1⟩ := twoZip_iff.mp hap
  exact ⟨fourZip_iff.mpr ⟨Delay.inside_push _ _ _ hn0 h0, Delay.inside_push _ _ _ hn1 h1,
      Delay.inside_push _ _ _ hn2 h2, Delay.inside_push _ _ _ hn3 h3⟩,
    twoZip_iff.mpr ⟨Delay.inside_push _ _ _ hm0 ha0, Delay.inside_push _ _ _ hm1 ha1⟩⟩

/-- The diffuser's lines are inside their lengths. -/
def FX.Inside (c : Cfg) (fx : FX) : Prop :=
  fourZip Delay.inside c.difLen.l fx.dif.l = true ∧ fourZip Delay.inside c.difLen.r fx.dif.r = true

/-- The reverb's lines are inside their lengths. -/
def Reverb.Inside (c : Cfg) (rv : Reverb) : Prop :=
  (fourZip Comb.inside c.revCombLen.l rv.comb.l = true ∧ fourZip Comb.inside c.revCombLen.r rv.comb.r = true) ∧
    twoZip Delay.inside c.revApLen.l rv.ap.l = true ∧ twoZip Delay.inside c.revApLen.r rv.ap.r = true

theorem cursorsInside_iff {s : State} : CursorsInside s = true ↔ FX.Inside s.cfg s.fx ∧ Reverb.Inside s.cfg s.rv := by
  simp only [CursorsInside, FX.Inside, Reverb.Inside, Bool.and_eq_true, and_assoc]
  rfl

theorem FX.inside_process {c : Cfg} (hc : c.lengthsLegal = true) (p : Nat → F32) (sr k : F32) {fx : FX}
    (h : FX.Inside c fx) : FX.Inside c (fx.process c p sr k).2 := by
  obtain ⟨-, -, hl, hr⟩ := lengthsLegal_iff.mp hc
  exact FX.process_keeps (P := FX.Inside c) c p sr k (fun _ _ hf => hf)
    (fun x _ ⟨hfl, hfr⟩ => ⟨diffuse_inside hl c.difG (p Param.FX_DIFFUSE) x.l hfl,
      diffuse_inside hr c.difG (p Param.FX_DIFFUSE) x.r hfr⟩)
    (fun _ _ hf => hf) (fun _ _ hf => hf) (fun _ _ hf => hf) h

theorem Reverb.inside_process {c : Cfg} (hc : c.lengthsLegal = true) (p : Nat → F32) (k : F32) {rv : Reverb}
    (h : Reverb.Inside c rv) : Reverb.Inside c (rv.process c p k).2 := by
  obtain ⟨⟨hcl, hcr⟩, ⟨hal, har⟩, -⟩ := lengthsLegal_iff.mp hc
  obtain ⟨⟨hcombl, hcombr⟩, hapl, hapr⟩ := h
  obtain ⟨hl1, hl2⟩ := reverbChannel_inside hcl hal c (k.mul c.revInGain)
    (c.revFbBase.add (c.revFbScale.mul (p Param.REV_SIZE))) ((p Param.REV_DAMP).mul c.revDampScale) hcombl hapl
  obtain ⟨hr1, hr2⟩ := reverbChannel_inside hcr har c (k.mul c.revInGain)
    (c.revFbBase.add (c.revFbScale.mul (p Param.REV_SIZE))) ((p Param.REV_DAMP).mul c.revDampScale) hcombr hapr
  exact ⟨⟨hl1, hr1⟩, hl2, hr2⟩

theorem cursorsInside_congr (u v : State) (hu : CursorsInside u = true) (h : SameSound u v) :
    CursorsInside v = true := by
  simpa only [CursorsInside, h.cfg, h.fx, h.rv] using hu

/-- R262: a trigger touches no delay line. -/
theorem cursorsInside_triggerStep {s : State} (st : Nat) (hs : CursorsInside s = true) :
    CursorsInside (triggerStep st s) = true := by
  obtain ⟨hfx, hrv⟩ := cursorsInside_iff.mp hs
  refine cursorsInside_iff.mpr ⟨?_, hrv⟩
  rcases triggerStep_fx st s with he | he <;> rw [he] <;> exact hfx

theorem cursorsInside_soundStep {s : State} (hc : s.cfg.lengthsLegal = true) (hs : CursorsInside s = true) :
    CursorsInside (soundStep s).2 = true := by
  obtain ⟨hfx, hrv⟩ := cursorsInside_iff.mp hs
  exact cursorsInside_iff.mpr ⟨FX.inside_process hc _ _ _ hfx, Reverb.inside_process hc _ _ hrv⟩

theorem cursorsInside_tick {s : State} (hc : s.cfg.lengthsLegal = true) (hs : CursorsInside s = true) :
    CursorsInside (tick s).2 = true :=
  tick_keeps_sound (P := fun u => CursorsInside u = true) cursorsInside_congr (cursorsInside_triggerStep _ hs)
    (cursorsInside_soundStep (by rwa [transportStep_cfg])) hs

/-- Settles O31: a line is written only by a push, at its cursor, which it moves on with wrap. -/
theorem stepKeepsCursorsInside : Obligations.StepKeepsCursorsInside := fun s _ hc hs h =>
  step_keeps_sound (P := fun u => CursorsInside u = true) cursorsInside_congr
    (cursorsInside_of_reset (s := s.resetSound) hc rfl rfl)
    (fun ib => cursorsInside_tick (s := { s with inbox := ib }) hc hs) hs h

end Sys2Proof.Machine
end

section
/-! SUPPORT. Arithmetic on finite values (R13): sums, products and quotients as one rounding, with the bounds that
rounding keeps. -/

namespace Sys2Proof

/-! One theorem after another, as in Tests/Slice0.lean: checked at once they ask for more threads than the memory limit
allows. -/
set_option Elab.async false

/-! ## Patterns from a sign and a magnitude -/

theorem Fmt.signBit_pos (f : Fmt) : 0 < f.signBit := Nat.two_pow_pos _

theorem Fmt.infMag_lt_signBit (f : Fmt) : f.infMag < f.signBit := by
  have hexp : 0 < 2 ^ f.exp := Nat.two_pow_pos _
  rw [Fmt.infMag, Fmt.signBit, Nat.pow_add]
  exact Nat.mul_lt_mul_of_pos_right (by omega) (Nat.two_pow_pos _)

theorem Fmt.mag_pack {f : Fmt} {m : Nat} (neg : Bool) (h : m < f.signBit) : f.mag (f.pack neg m) = m := by
  cases neg <;> simp [Fmt.mag, Fmt.pack, Nat.mod_eq_of_lt h]

theorem Fmt.isNeg_pack {f : Fmt} {m : Nat} (neg : Bool) (h : m < f.signBit) : f.isNeg (f.pack neg m) = neg := by
  cases neg <;> simp [Fmt.isNeg, Fmt.pack, h]

theorem Fmt.pack_lt {f : Fmt} {m : Nat} (neg : Bool) (h : m < f.signBit) : f.pack neg m < 2 * f.signBit := by
  cases neg <;> simp only [Fmt.pack, Bool.false_eq_true, if_false, if_true] <;> omega

theorem Fmt.isNaN_eq_false {f : Fmt} {a : Nat} : f.isNaN a = false ↔ f.mag a ≤ f.infMag := by
  simp [Fmt.isNaN]

/-- A pattern is finite exactly if its magnitude is below infinity's. -/
theorem Fmt.finite_iff {f : Fmt} {a : Nat} : f.mag a < f.infMag ↔ f.isNaN a = false ∧ f.isInf a = false := by
  simp only [Fmt.isNaN, Fmt.isInf, decide_eq_false_iff_not]
  omega

@[simp] theorem Fmt.scaled_zero (f : Fmt) : f.scaled 0 = 0 := by simp [Fmt.scaled]

theorem Fmt.scaled_mono {f : Fmt} {a b : Nat} (h : a ≤ b) (hb : b ≤ f.infMag) : f.scaled a ≤ f.scaled b :=
  (f.scaled_le_iff a b (Nat.le_trans h hb) hb).mpr h

/-- A magnitude with fraction 0 is a power of two. -/
theorem Fmt.scaled_pow (f : Fmt) (k : Nat) : f.scaled ((k + 1) * 2 ^ f.mant) = 2 ^ (f.mant + k) := by
  have hp : 0 < 2 ^ f.mant := Nat.two_pow_pos _
  simp [Fmt.scaled, Nat.mul_div_cancel _ hp, Nat.pow_add]

theorem Fmt.toInt_of_pos {f : Fmt} {a : Nat} (h : f.isNeg a = false) : f.toInt a = f.scaled (f.mag a) := by
  simp [Fmt.toInt, h]

theorem Fmt.toInt_of_neg {f : Fmt} {a : Nat} (h : f.isNeg a = true) : f.toInt a = -f.scaled (f.mag a) := by
  simp [Fmt.toInt, h]

theorem Fmt.key_of_pos {f : Fmt} {a : Nat} (h : f.isNeg a = false) : f.key a = f.mag a := by
  simp [Fmt.key, h]

theorem Fmt.key_of_neg {f : Fmt} {a : Nat} (h : f.isNeg a = true) : f.key a = -f.mag a := by
  simp [Fmt.key, h]

/-! ## One rounding -/

theorem Fmt.add_finite {f : Fmt} {a b : Nat} (ha : f.mag a < f.infMag) (hb : f.mag b < f.infMag) :
    f.add a b = if f.toInt a + f.toInt b = 0 then f.pack (f.isNeg a && f.isNeg b) 0
      else f.pack (decide (f.toInt a + f.toInt b < 0)) (f.roundMag (f.toInt a + f.toInt b).natAbs 1) := by
  obtain ⟨hna, hia⟩ := Fmt.finite_iff.mp ha
  obtain ⟨hnb, hib⟩ := Fmt.finite_iff.mp hb
  simp [Fmt.add, hna, hia, hnb, hib]

theorem Fmt.mul_finite {f : Fmt} {a b : Nat} (ha : f.mag a < f.infMag) (hb : f.mag b < f.infMag) :
    f.mul a b = f.pack (f.isNeg a != f.isNeg b)
      (f.roundMag (f.scaled (f.mag a) * f.scaled (f.mag b)) (2 ^ f.unit)) := by
  obtain ⟨hna, hia⟩ := Fmt.finite_iff.mp ha
  obtain ⟨hnb, hib⟩ := Fmt.finite_iff.mp hb
  simp [Fmt.mul, hna, hia, hnb, hib]

theorem Fmt.div_finite {f : Fmt} {a b : Nat} (ha : f.mag a < f.infMag) (hb : f.mag b < f.infMag)
    (hz : f.mag b ≠ 0) :
    f.div a b = f.pack (f.isNeg a != f.isNeg b)
      (f.roundMag (f.scaled (f.mag a) * 2 ^ f.unit) (f.scaled (f.mag b))) := by
  obtain ⟨hna, hia⟩ := Fmt.finite_iff.mp ha
  obtain ⟨hnb, hib⟩ := Fmt.finite_iff.mp hb
  simp [Fmt.div, Fmt.isZero, hna, hia, hnb, hib, hz]

/-- A rounded magnitude fits beside the sign bit. -/
theorem Fmt.roundMag_lt_signBit (f : Fmt) (num den : Nat) : f.roundMag num den < f.signBit :=
  Nat.lt_of_le_of_lt (f.roundMag_le_infMag num den) f.infMag_lt_signBit

/-- A value that is not positive has a key that is not positive. -/
theorem Fmt.key_nonpos {f : Fmt} {a : Nat} (ha : f.mag a < f.infMag) (h : f.toInt a ≤ 0) : f.key a ≤ 0 := by
  cases hneg : f.isNeg a with
  | true => rw [Fmt.key_of_neg hneg]; omega
  | false =>
    rw [Fmt.toInt_of_pos hneg] at h
    have hm : f.mag a ≤ 0 :=
      (f.scaled_le_iff _ 0 (Nat.le_of_lt ha) (Nat.zero_le _)).mp (by rw [Fmt.scaled_zero]; omega)
    rw [Fmt.key_of_pos hneg]
    omega

/-- Rounding an integer number of units never passes a finite value from above. -/
theorem Fmt.key_le_round {f : Fmt} {a : Nat} {v : Int} (ha : f.mag a < f.infMag) (h : f.toInt a ≤ v) :
    f.key a ≤ f.key (f.pack (decide (v < 0)) (f.roundMag v.natAbs 1)) := by
  have hfit := f.roundMag_lt_signBit v.natAbs 1
  have hsign := Fmt.isNeg_pack (decide (v < 0)) hfit
  by_cases hv : v < 0
  · rw [Fmt.key_of_neg (hsign.trans (decide_eq_true hv)), Fmt.mag_pack _ hfit]
    cases hneg : f.isNeg a with
    | false => rw [Fmt.toInt_of_pos hneg] at h; omega
    | true =>
      rw [Fmt.toInt_of_neg hneg] at h
      have hle := f.roundMag_le v.natAbs 1 (f.mag a) Nat.one_pos (by omega)
      rw [Fmt.key_of_neg hneg]
      omega
  · rw [Fmt.key_of_pos (hsign.trans (decide_eq_false hv)), Fmt.mag_pack _ hfit]
    cases hneg : f.isNeg a with
    | true => rw [Fmt.key_of_neg hneg]; omega
    | false =>
      rw [Fmt.toInt_of_pos hneg] at h
      have hge := f.le_roundMag v.natAbs 1 (f.mag a) Nat.one_pos (Nat.le_of_lt ha) (by omega)
      rw [Fmt.key_of_pos hneg]
      omega

/-- Adding a finite value that is not negative never goes down, an infinite first operand included. -/
theorem Fmt.le_add_of_nonneg {f : Fmt} {a b : Nat} (ha : f.isNaN a = false) (hb : f.mag b < f.infMag)
    (hpos : f.isNeg b = false) : f.le a (f.add a b) = true := by
  cases hinf : f.isInf a with
  | true =>
    obtain ⟨hnb, hib⟩ := Fmt.finite_iff.mp hb
    have he : f.add a b = a := by simp [Fmt.add, ha, hnb, hinf, hib]
    exact he.symm ▸ Fmt.le_refl ha
  | false =>
    have hfin : f.mag a < f.infMag := Fmt.finite_iff.mpr ⟨ha, hinf⟩
    have hsum : f.toInt a ≤ f.toInt a + f.toInt b := by rw [Fmt.toInt_of_pos hpos]; omega
    rw [Fmt.add_finite hfin hb, Fmt.le_iff]
    split
    · next h0 =>
      have hmag := Fmt.mag_pack (f.isNeg a && f.isNeg b) f.signBit_pos
      have hkey : f.key (f.pack (f.isNeg a && f.isNeg b) 0) = 0 := by simp [Fmt.key, hmag]
      exact ⟨ha, Fmt.isNaN_eq_false.mpr (hmag.trans_le (Nat.zero_le _)), hkey ▸ Fmt.key_nonpos hfin (h0 ▸ hsum)⟩
    · have hmag := Fmt.mag_pack (decide (f.toInt a + f.toInt b < 0))
        (f.roundMag_lt_signBit (f.toInt a + f.toInt b).natAbs 1)
      exact ⟨ha, Fmt.isNaN_eq_false.mpr (hmag.trans_le (f.roundMag_le_infMag _ _)), Fmt.key_le_round hfin hsum⟩

/-- Every pattern that addition gives is one of the format. -/
theorem Fmt.add_lt {f : Fmt} {a b : Nat} (ha : a < 2 * f.signBit) (hb : b < 2 * f.signBit)
    (hq : f.qnan < 2 * f.signBit) : f.add a b < 2 * f.signBit := by
  unfold Fmt.add
  split
  · exact hq
  · split
    · split <;> assumption
    · split
      · exact hb
      · split
        · exact Fmt.pack_lt _ f.signBit_pos
        · exact Fmt.pack_lt _ (f.roundMag_lt_signBit _ _)

end Sys2Proof
end

section
/-! SUPPORT. Envelopes stay in [0, 1] (R45, R138): the unit interval of binary32, the coefficients of R40, and the six
envelopes of the kick, the snare's two, the hat's and the FX chain's. -/

namespace Sys2Proof.Machine

set_option Elab.async false

/-! ## The unit interval -/

/-- The magnitude bits of 1.0. -/
def oneMag : Nat := 0x3F800000

theorem scaled_oneMag : fmt32.scaled oneMag = 2 ^ fmt32.unit := by decide +kernel

theorem oneMag_lt_infMag : oneMag < fmt32.infMag := by decide +kernel

/-- A value is in [0, 1] if its magnitude is at most that of 1.0 and its sign bit is set on a zero only. -/
theorem F32.unit_iff {x : F32} :
    F32.unit x = true ↔ fmt32.mag x.nat ≤ oneMag ∧ (fmt32.isNeg x.nat = true → fmt32.mag x.nat = 0) := by
  have hzero : fmt32.isNaN F32.zero.nat = false ∧ fmt32.key F32.zero.nat = 0 := by decide +kernel
  have hone : fmt32.isNaN F32.one.nat = false ∧ fmt32.key F32.one.nat = (oneMag : Int) := by decide +kernel
  have hinf := oneMag_lt_infMag
  rw [F32.unit, F32.within_iff, F32.le, F32.le, Fmt.le_iff, Fmt.le_iff, hzero.2, hone.2]
  simp only [hzero.1, hone.1, true_and, Fmt.isNaN_eq_false]
  cases hneg : fmt32.isNeg x.nat with
  | true =>
    rw [Fmt.key_of_neg hneg]
    simp only [true_imp_iff]
    omega
  | false =>
    rw [Fmt.key_of_pos hneg]
    simp only [Bool.false_eq_true, false_imp_iff, and_true]
    omega

theorem F32.unit_finite {x : F32} (h : F32.unit x = true) : fmt32.mag x.nat < fmt32.infMag :=
  Nat.lt_of_le_of_lt (F32.unit_iff.mp h).1 oneMag_lt_infMag

theorem F32.unit_scaled_le {x : F32} (h : F32.unit x = true) : fmt32.scaled (fmt32.mag x.nat) ≤ 2 ^ fmt32.unit :=
  scaled_oneMag ▸ Fmt.scaled_mono (F32.unit_iff.mp h).1 (Nat.le_of_lt oneMag_lt_infMag)

/-- The value of a member of [0, 1] is its magnitude, for a zero of either sign too. -/
theorem F32.unit_toInt {x : F32} (h : F32.unit x = true) : fmt32.toInt x.nat = fmt32.scaled (fmt32.mag x.nat) := by
  cases hneg : fmt32.isNeg x.nat with
  | false => exact Fmt.toInt_of_pos hneg
  | true => simp [Fmt.toInt_of_neg hneg, (F32.unit_iff.mp h).2 hneg]

theorem F32.unit_pack {neg : Bool} {m : Nat} (hm : m ≤ oneMag) (hneg : neg = true → m = 0) :
    F32.unit (F32.ofPattern (fmt32.pack neg m)) = true := by
  have hfit : m < fmt32.signBit :=
    Nat.lt_trans (Nat.lt_of_le_of_lt hm oneMag_lt_infMag) fmt32.infMag_lt_signBit
  rw [F32.unit_iff, F32.nat_ofPattern _ (Fmt.pack_lt neg hfit), Fmt.mag_pack neg hfit, Fmt.isNeg_pack neg hfit]
  exact ⟨hm, hneg⟩

/-- R131: a product of members of [0, 1] is one: rounding does not pass the first of them. -/
theorem F32.unit_mul {x y : F32} (hx : F32.unit x = true) (hy : F32.unit y = true) : F32.unit (x.mul y) = true := by
  obtain ⟨hmx, hzx⟩ := F32.unit_iff.mp hx
  obtain ⟨-, hzy⟩ := F32.unit_iff.mp hy
  have hden : 0 < 2 ^ fmt32.unit := Nat.two_pow_pos _
  have hle : fmt32.roundMag (fmt32.scaled (fmt32.mag x.nat) * fmt32.scaled (fmt32.mag y.nat)) (2 ^ fmt32.unit) ≤
      fmt32.mag x.nat :=
    fmt32.roundMag_le _ _ _ hden (Nat.mul_le_mul_left _ (F32.unit_scaled_le hy))
  rw [F32.mul, Fmt.mul_finite (F32.unit_finite hx) (F32.unit_finite hy)]
  refine F32.unit_pack (Nat.le_trans hle hmx) fun hsign => Nat.le_zero.mp (fmt32.roundMag_le _ _ _ hden ?_)
  have hprod : fmt32.scaled (fmt32.mag x.nat) * fmt32.scaled (fmt32.mag y.nat) = 0 := by
    cases hnx : fmt32.isNeg x.nat with
    | true => simp [hzx hnx]
    | false => simp [hzy (by simpa [hnx] using hsign)]
  exact hprod.trans_le (Nat.zero_le _)

theorem F32.toInt_neg (x : F32) : fmt32.toInt (fmt32.neg x.nat) = -fmt32.toInt x.nat := by
  obtain ⟨hmag, hsign⟩ := Fmt.neg32 x.nat x.bits.isLt
  cases hneg : fmt32.isNeg x.nat <;> simp [Fmt.toInt, hmag, hsign, hneg]

/-- R136: `1 - x` of a member of [0, 1] is one. -/
theorem F32.unit_one_sub {x : F32} (hx : F32.unit x = true) : F32.unit (F32.one.sub x) = true := by
  have hmag := (Fmt.neg32 x.nat x.bits.isLt).1
  have hone : fmt32.mag F32.one.nat < fmt32.infMag ∧ fmt32.isNeg F32.one.nat = false ∧
      fmt32.toInt F32.one.nat = (2 ^ fmt32.unit : Nat) := by decide +kernel
  obtain ⟨hfin, hpos, hval⟩ := hone
  have hle := F32.unit_scaled_le hx
  have hdiff : fmt32.toInt F32.one.nat + fmt32.toInt (fmt32.neg x.nat) =
      (2 ^ fmt32.unit - fmt32.scaled (fmt32.mag x.nat) : Nat) := by
    rw [hval, F32.toInt_neg, F32.unit_toInt hx, Int.ofNat_sub hle]
    rfl
  rw [F32.sub, Fmt.add_finite hfin (hmag.trans_lt (F32.unit_finite hx)), hdiff, hpos]
  split
  · exact F32.unit_pack (Nat.zero_le _) fun h => rfl
  · refine F32.unit_pack ?_ fun h => ?_
    · refine fmt32.roundMag_le _ _ _ Nat.one_pos ?_
      rw [scaled_oneMag, Int.natAbs_natCast, Nat.mul_one]
      exact Nat.sub_le _ _
    · exact absurd (of_decide_eq_true h) (Int.not_lt.mpr (Int.natCast_nonneg _))

/-! ## The envelope generators (R130 to R137) -/

theorem DecayEnv.unit_next {e : DecayEnv} {c : F32} (he : F32.unit e.value = true) (hc : F32.unit c = true) :
    F32.unit (e.next c).2.value = true :=
  F32.unit_mul he hc

theorem attackValue_unit {v ca : F32} (hv : F32.unit v = true) (hca : F32.unit ca = true) :
    F32.unit (attackValue v ca) = true :=
  F32.unit_one_sub (F32.unit_mul (F32.unit_one_sub hv) hca)

theorem ADEnv.unit_next {e : ADEnv} {ca cd : F32} (he : F32.unit e.value = true) (hca : F32.unit ca = true)
    (hcd : F32.unit cd = true) : F32.unit (e.next ca cd).2.value = true := by
  unfold ADEnv.next
  split
  · exact he
  · exact attackValue_unit he hca
  · exact F32.unit_mul he hcd

@[simp] theorem F32.unit_one : F32.unit F32.one = true := by decide +kernel

/-! ## The coefficients (R40) -/

/-- Every decay and attack coefficient is in [0, 1]. -/
def CoefsUnit (p : Nat → F32) : Prop := ∀ i, isCoef i = true → F32.unit (p i) = true

/-- R40: a decay coefficient is bounded by `COEF_MAX`, an attack coefficient by `ATK_COEF_MAX`. -/
theorem ptCap_of_isCoef {i : Nat} (h : isCoef i = true) (c : Cfg) :
    ptCap c i = some c.coefMax ∨ ptCap c i = some c.atkCoefMax := by
  simp only [isCoef, Bool.or_eq_true, decide_eq_true_eq] at h
  rcases h with h | h
  · exact .inl (by simp [ptCap, h])
  · exact .inr (by simp [ptCap, h])

theorem isCoef_lt {i : Nat} (h : isCoef i = true) : i < 77 := by
  by_contra hi
  have hlen : Config.paramTable.length = 77 := rfl
  have hnone : Config.paramTable[i]? = none := List.getElem?_eq_none (by omega)
  simp [isCoef, paramKind, hnone] at h

/-- The upper end of a range is at most its bound, if the bound is one a range with no entry keeps too. -/
theorem ptMax_le_cap {c : Cfg} {i : Nat} {m : F32} (hm : ptCap c i = some m) (h0 : F32.zero.le m = true) :
    (ptMax c i).le m = true := by
  rcases ptMax_cases c i with ⟨-, he⟩ | ⟨r, -, ⟨he, hlt⟩ | ⟨m', hm', -, he⟩⟩ <;> rw [he]
  · exact h0
  · exact F32.le_of_lt (hlt m hm)
  · cases hm.symm.trans hm'
    exact F32.le_refl (F32.not_nan_of_le_right h0)

/-- What a legal table says of the coefficients: both bounds are in [0, 1), and no coefficient's range is below 0. -/
theorem tableLegal_coefs {c : Cfg} (hc : c.tableLegal = true) :
    77 ≤ c.nparam ∧ (F32.zero.le c.coefMax = true ∧ c.coefMax.lt F32.one = true) ∧
      (F32.zero.le c.atkCoefMax = true ∧ c.atkCoefMax.lt F32.one = true) ∧
      ∀ i, isCoef i = true → F32.zero.le (ptMin c i) = true := by
  simp only [Cfg.tableLegal, Bool.and_eq_true, decide_eq_true_eq] at hc
  obtain ⟨⟨⟨⟨⟨⟨⟨⟨-, -⟩, hn⟩, hc0⟩, hc1⟩, ha0⟩, ha1⟩, hmin⟩, -⟩ := hc
  refine ⟨hn, ⟨hc0, hc1⟩, ⟨ha0, ha1⟩, fun i hi => ?_⟩
  simpa [hi] using List.all_eq_true.mp hmin i (List.mem_range.mpr (isCoef_lt hi))

theorem coefsUnit_of_legal {s : State} (hc : s.cfg.tableLegal = true) (hs : ParamsLegal s) : CoefsUnit s.par := by
  intro i hi
  obtain ⟨hn, ⟨hc0, hc1⟩, ⟨ha0, ha1⟩, hmin⟩ := tableLegal_coefs hc
  obtain ⟨hlo, hhi⟩ := F32.within_iff.mp (hs i (Nat.lt_of_lt_of_le (isCoef_lt hi) hn)).2
  have hmax : (ptMax s.cfg i).le F32.one = true := by
    rcases ptCap_of_isCoef hi s.cfg with hcap | hcap
    · exact F32.le_trans (ptMax_le_cap hcap hc0) (F32.le_of_lt hc1)
    · exact F32.le_trans (ptMax_le_cap hcap ha0) (F32.le_of_lt ha1)
  exact F32.within_iff.mpr ⟨F32.le_trans (hmin i hi) hlo, F32.le_trans hhi hmax⟩

/-! ## The voices and the FX chain -/

/-- The kick's six envelopes are in [0, 1]. -/
def Kick.EnvelopesIn (k : Kick) : Prop :=
  (F32.unit k.envAmp.value = true ∧ F32.unit k.envPitch.value = true) ∧
    (F32.unit k.envDrive.value = true ∧ F32.unit k.envTail.value = true) ∧
      F32.unit k.envL.j0.value = true ∧ F32.unit k.envL.j1.value = true

/-- The snare's two envelopes are in [0, 1]. -/
def Snare.EnvelopesIn (sn : Snare) : Prop := F32.unit sn.envAmp.value = true ∧ F32.unit sn.envTone.value = true

theorem envelopesLegal_iff {s : State} : EnvelopesLegal s = true ↔ Kick.EnvelopesIn s.k ∧ Snare.EnvelopesIn s.sn ∧
    F32.unit s.ht.envAmp.value = true ∧ F32.unit s.fx.trEnv.value = true := by
  simp [EnvelopesLegal, Kick.EnvelopesIn, Snare.EnvelopesIn, and_assoc]

theorem Kick.envelopesIn_trigger (c : Cfg) (p : Nat → F32) {v : F32} (hv : F32.unit v = true) (k : Kick) :
    (k.trigger c p v).EnvelopesIn :=
  ⟨⟨hv, F32.unit_one⟩, ⟨F32.unit_one, F32.unit_one⟩, F32.unit_zero, F32.unit_zero⟩

theorem Kick.envelopesIn_sample {p : Nat → F32} (hp : CoefsUnit p) (c : Cfg) (sr : F32) {k : Kick}
    (h : k.EnvelopesIn) : (k.sample c p sr).2.EnvelopesIn := by
  obtain ⟨⟨hamp, hpitch⟩, ⟨hdrive, htail⟩, hl1, hl2⟩ := h
  refine ⟨⟨?_, ?_⟩, ⟨?_, ?_⟩, ?_⟩
  · exact DecayEnv.unit_next hamp (hp Param.K_AMP_DECAY (by decide))
  · exact DecayEnv.unit_next hpitch (hp Param.K_PITCH_DECAY (by decide))
  · exact DecayEnv.unit_next hdrive (hp Param.K_DRIVE_DECAY (by decide))
  · exact DecayEnv.unit_next htail (hp Param.K_TAIL_DECAY (by decide))
  · rw [k.sample_envL c p sr]
    exact ⟨ADEnv.unit_next hl1 (hp Param.L1_ATTACK (by decide)) (hp Param.L1_DECAY (by decide)),
      ADEnv.unit_next hl2 (hp Param.L2_ATTACK (by decide)) (hp Param.L2_DECAY (by decide))⟩

theorem Kick.envelopesIn_process {p : Nat → F32} (hp : CoefsUnit p) (c : Cfg) (sr : F32) {k : Kick}
    (h : k.EnvelopesIn) : (k.process c p sr).2.EnvelopesIn := by
  rcases k.process_cases c p sr with he | he <;> rw [he]
  · exact h
  · exact Kick.envelopesIn_sample hp c sr h

theorem Snare.envelopesIn_process {p : Nat → F32} (hp : CoefsUnit p) (c : Cfg) (sr : F32) {sn : Snare}
    (h : sn.EnvelopesIn) : (sn.process c p sr).2.EnvelopesIn := by
  rcases sn.process_cases c p sr with he | he <;> rw [he]
  · exact h
  · obtain ⟨hamp, htone⟩ := h
    exact ⟨DecayEnv.unit_next hamp (hp Param.S_AMP_DECAY (by decide)),
      DecayEnv.unit_next htone (hp Param.S_TONE_DECAY (by decide))⟩

theorem Hat.unit_process {p : Nat → F32} (hp : CoefsUnit p) (c : Cfg) (sr : F32) {ht : Hat}
    (h : F32.unit ht.envAmp.value = true) : F32.unit (ht.process c p sr).2.envAmp.value = true := by
  rcases ht.process_cases c p sr with he | he <;> rw [he]
  · exact h
  · rw [ht.sample_envAmp c p sr]
    exact DecayEnv.unit_next h (hp Param.H_DECAY (by decide))

theorem FX.unit_process {p : Nat → F32} (hp : CoefsUnit p) (c : Cfg) (sr k : F32) {fx : FX}
    (h : F32.unit fx.trEnv.value = true) : F32.unit (fx.process c p sr k).2.trEnv.value = true :=
  FX.process_keeps (P := fun f => F32.unit f.trEnv.value = true) c p sr k (fun _ _ hf => hf) (fun _ _ hf => hf)
    (fun _ _ hf => hf)
    (fun _ _ hf => ADEnv.unit_next hf (hp Param.FX_TRANS_ATTACK (by decide)) (hp Param.FX_TRANS_DECAY (by decide)))
    (fun _ _ hf => hf) h

/-! ## A tick and a step -/

theorem envelopesLegal_congr (u v : State) (hu : EnvelopesLegal u = true) (h : SameSound u v) :
    EnvelopesLegal v = true := by
  simpa only [EnvelopesLegal, h.k, h.sn, h.ht, h.fx] using hu

/-- R305: a trigger starts an envelope at a stored velocity, at 1 or at 0. -/
theorem envelopesLegal_triggerStep {s : State} {st : Nat} (hst : st < 16) (hvel : VelocitiesLegal s)
    (hs : EnvelopesLegal s = true) : EnvelopesLegal (triggerStep st s) = true := by
  obtain ⟨hk, hsn, hht, hfx⟩ := envelopesLegal_iff.mp hs
  refine envelopesLegal_iff.mpr ⟨?_, ?_, ?_, ?_⟩
  · rcases triggerStep_k st s with he | he <;> rw [he]
    · exact hk
    · exact Kick.envelopesIn_trigger _ _ (hvel 0 st (by decide) hst) _
  · rcases triggerStep_sn st s with he | he <;> rw [he]
    · exact hsn
    · exact ⟨hvel 1 st (by decide) hst, F32.unit_one⟩
  · rcases triggerStep_ht st s with he | he <;> rw [he]
    · exact hht
    · exact hvel 2 st (by decide) hst
  · rcases triggerStep_fx st s with he | he <;> rw [he]
    · exact hfx
    · exact F32.unit_zero

theorem envelopesLegal_soundStep {s : State} (hp : CoefsUnit s.par) (hs : EnvelopesLegal s = true) :
    EnvelopesLegal (soundStep s).2 = true := by
  obtain ⟨hk, hsn, hht, hfx⟩ := envelopesLegal_iff.mp hs
  exact envelopesLegal_iff.mpr ⟨Kick.envelopesIn_process hp _ _ hk, Snare.envelopesIn_process hp _ _ hsn,
    Hat.unit_process hp _ _ hht, FX.unit_process hp _ _ _ hfx⟩

theorem envelopesLegal_tick {s : State} (hp : CoefsUnit s.par) (hvel : VelocitiesLegal s)
    (hs : EnvelopesLegal s = true) : EnvelopesLegal (tick s).2 = true :=
  tick_keeps_sound (P := fun u => EnvelopesLegal u = true) envelopesLegal_congr
    (envelopesLegal_triggerStep s.t.stepIndex.isLt hvel hs)
    (envelopesLegal_soundStep (by rwa [transportStep_par])) hs

/-- Settles O39: an envelope starts at a legal velocity, at 1 or at 0, and `next` multiplies members of [0, 1] or takes
one from 1, which rounding keeps in [0, 1]. -/
theorem stepKeepsEnvelopesInUnit : Obligations.StepKeepsEnvelopesInUnit := fun s _ hc hparams hvel hs h =>
  step_keeps_sound (P := fun u => EnvelopesLegal u = true) envelopesLegal_congr
    (envelopesLegal_of_reset (s := s.resetSound) rfl rfl rfl rfl)
    (fun ib => envelopesLegal_tick (s := { s with inbox := ib }) (coefsUnit_of_legal hc hparams) hvel hs) hs h

end Sys2Proof.Machine
end

section
/-! SUPPORT. The next firing (R33, R303): the length of a step is finite and not negative, so a firing never moves it
back. -/

namespace Sys2Proof

set_option Elab.async false

/-! ## Bounds of binary64 values -/

/-- The magnitude bits of `2^e`. -/
def pow64 (e : Nat) : Nat := (1023 + e) * 2 ^ fmt64.mant

theorem scaled_pow64 (e : Nat) : fmt64.scaled (pow64 e) = 2 ^ (fmt64.unit + e) := by
  have h := fmt64.scaled_pow (1022 + e)
  rwa [show 1022 + e + 1 = 1023 + e by omega, show fmt64.mant + (1022 + e) = fmt64.unit + e by
    simp only [fmt64, Fmt.unit]; omega] at h

/-- `x` is in [0, 2^e]. -/
structure F64.UpTo (e : Nat) (x : F64) : Prop where
  pos : fmt64.isNeg x.nat = false
  le : fmt64.mag x.nat ≤ pow64 e

/-- `x` is finite and at least 1. -/
structure F64.AtLeastOne (x : F64) : Prop where
  pos : fmt64.isNeg x.nat = false
  le : pow64 0 ≤ fmt64.mag x.nat
  finite : fmt64.mag x.nat < fmt64.infMag

theorem pow64_lt_infMag {e : Nat} (he : e < 1024) : pow64 e < fmt64.infMag := by
  rw [pow64, Fmt.infMag]
  exact Nat.mul_lt_mul_of_pos_right (by simp only [fmt64]; omega) (Nat.two_pow_pos _)

theorem F64.UpTo.finite {e : Nat} {x : F64} (hx : F64.UpTo e x) (he : e < 1024) :
    fmt64.mag x.nat < fmt64.infMag :=
  Nat.lt_of_le_of_lt hx.le (pow64_lt_infMag he)

theorem F64.UpTo.scaled_le {e : Nat} {x : F64} (hx : F64.UpTo e x) (he : e < 1024) :
    fmt64.scaled (fmt64.mag x.nat) ≤ 2 ^ (fmt64.unit + e) :=
  scaled_pow64 e ▸ Fmt.scaled_mono hx.le (Nat.le_of_lt (pow64_lt_infMag he))

theorem F64.AtLeastOne.le_scaled {x : F64} (hx : F64.AtLeastOne x) :
    2 ^ fmt64.unit ≤ fmt64.scaled (fmt64.mag x.nat) := by
  have h := Fmt.scaled_mono hx.le (Nat.le_of_lt hx.finite)
  rwa [scaled_pow64, Nat.add_zero] at h

theorem F64.nat_pack {m : Nat} (neg : Bool) (hm : m < fmt64.signBit) :
    (F64.ofPattern (fmt64.pack neg m)).nat = fmt64.pack neg m :=
  F64.nat_ofPattern _ (Fmt.pack_lt neg hm)

/-- A rounded magnitude without a sign is in [0, 2^e] if what was rounded is. -/
theorem F64.upTo_round {e num den : Nat} (hd : 0 < den) (h : num ≤ 2 ^ (fmt64.unit + e) * den) :
    F64.UpTo e (F64.ofPattern (fmt64.pack false (fmt64.roundMag num den))) := by
  have hfit := fmt64.roundMag_lt_signBit num den
  constructor
  · rw [F64.nat_pack _ hfit, Fmt.isNeg_pack _ hfit]
  · rw [F64.nat_pack _ hfit, Fmt.mag_pack _ hfit]
    exact fmt64.roundMag_le _ _ _ hd (by rwa [scaled_pow64])

theorem F64.UpTo.mul {e e' : Nat} {x y : F64} (hx : F64.UpTo e x) (hy : F64.UpTo e' y) (he : e < 1024)
    (he' : e' < 1024) : F64.UpTo (e + e') (x.mul y) := by
  rw [F64.mul, Fmt.mul_finite (hx.finite he) (hy.finite he'), hx.pos, hy.pos]
  refine F64.upTo_round (Nat.two_pow_pos _) ?_
  calc _ ≤ 2 ^ (fmt64.unit + e) * 2 ^ (fmt64.unit + e') := Nat.mul_le_mul (hx.scaled_le he) (hy.scaled_le he')
    _ = 2 ^ (fmt64.unit + (e + e')) * 2 ^ fmt64.unit := by rw [← Nat.pow_add, ← Nat.pow_add]; congr 1; omega

theorem F64.UpTo.div {e : Nat} {x y : F64} (hx : F64.UpTo e x) (hy : F64.AtLeastOne y) (he : e < 1024) :
    F64.UpTo e (x.div y) := by
  have hone := hy.le_scaled
  have hpos : 0 < 2 ^ fmt64.unit := Nat.two_pow_pos _
  have hne : fmt64.mag y.nat ≠ 0 := fun h => by rw [h, Fmt.scaled_zero] at hone; omega
  rw [F64.div, Fmt.div_finite (hx.finite he) hy.finite hne, hx.pos, hy.pos]
  exact F64.upTo_round (Nat.lt_of_lt_of_le hpos hone) (Nat.mul_le_mul (hx.scaled_le he) hone)

/-! ## Widening from binary32 -/

/-- A finite value without a sign widens by one rounding. -/
theorem F64.ofF32_of_pos {x : F32} (hfin : fmt32.mag x.nat < fmt32.infMag) (hpos : fmt32.isNeg x.nat = false) :
    F64.ofF32 x = F64.ofPattern (fmt64.pack false
      (fmt64.roundMag (fmt32.scaled (fmt32.mag x.nat) * 2 ^ (fmt64.unit - fmt32.unit)) 1)) := by
  obtain ⟨hnan, hinf⟩ := Fmt.finite_iff.mp hfin
  simp [F64.ofF32, F32.isNaN, F32.isInf, F32.isNeg, hnan, hinf, hpos]

/-- Every finite binary32 value is below `2^128`. -/
theorem F64.upTo_ofF32 {x : F32} (hfin : fmt32.mag x.nat < fmt32.infMag) (hpos : fmt32.isNeg x.nat = false) :
    F64.UpTo 128 (F64.ofF32 x) := by
  rw [F64.ofF32_of_pos hfin hpos]
  refine F64.upTo_round Nat.one_pos ?_
  have htop : fmt32.scaled fmt32.infMag * 2 ^ (fmt64.unit - fmt32.unit) ≤ 2 ^ (fmt64.unit + 128) * 1 := by
    decide +kernel
  exact Nat.le_trans (Nat.mul_le_mul_right _ (Fmt.scaled_mono (Nat.le_of_lt hfin) (Nat.le_refl _))) htop

theorem F64.atLeastOne_ofF32 {x : F32} (hfin : fmt32.mag x.nat < fmt32.infMag) (hpos : fmt32.isNeg x.nat = false)
    (hone : Machine.oneMag ≤ fmt32.mag x.nat) : F64.AtLeastOne (F64.ofF32 x) := by
  have hup := F64.upTo_ofF32 hfin hpos
  refine ⟨hup.pos, ?_, hup.finite (by decide)⟩
  have hbot : fmt64.scaled (pow64 0) * 1 ≤ fmt32.scaled Machine.oneMag * 2 ^ (fmt64.unit - fmt32.unit) := by
    decide +kernel
  have hfit := fmt64.roundMag_lt_signBit (fmt32.scaled (fmt32.mag x.nat) * 2 ^ (fmt64.unit - fmt32.unit)) 1
  rw [F64.ofF32_of_pos hfin hpos, F64.nat_pack _ hfit, Fmt.mag_pack _ hfit]
  exact fmt64.le_roundMag _ _ _ Nat.one_pos (Nat.le_of_lt (pow64_lt_infMag (by decide)))
    (Nat.le_trans hbot (Nat.mul_le_mul_right _ (Fmt.scaled_mono hone (Nat.le_of_lt hfin))))

theorem F64.nat_add (x y : F64) : (x.add y).nat = fmt64.add x.nat y.nat :=
  F64.nat_ofPattern _ (Fmt.add_lt (f := fmt64) x.bits.isLt y.bits.isLt (by decide +kernel))

theorem F64.le_add_of_upTo {e : Nat} {x y : F64} (hx : x.isNaN = false) (hy : F64.UpTo e y) (he : e < 1024) :
    x.le (x.add y) = true := by
  rw [F64.le, F64.nat_add]
  exact Fmt.le_add_of_nonneg hx (hy.finite he) hy.pos

end Sys2Proof

namespace Sys2Proof.Machine

set_option Elab.async false

/-! ## The length of a step (R303) -/

/-- R404: an accepted rate is finite and has no sign. -/
theorem rate_finite {sr : F32} (h : rateAccepted sr = true) :
    fmt32.mag sr.nat < fmt32.infMag ∧ fmt32.isNeg sr.nat = false := by
  simp only [rateAccepted, Bool.and_eq_true, Bool.not_eq_true'] at h
  obtain ⟨⟨hnan, hinf⟩, hgt⟩ := h
  refine ⟨Fmt.finite_iff.mpr ⟨hnan, hinf⟩, ?_⟩
  obtain ⟨-, -, hkey⟩ := Fmt.lt_iff.mp hgt
  have hzero : fmt32.key F32.zero.nat = 0 := by decide +kernel
  by_contra hneg
  rw [hzero, Fmt.key_of_neg (Bool.not_eq_false _ ▸ hneg)] at hkey
  omega

/-- R29: a legal tempo is finite and at least 1. -/
theorem tempo_bounds {bpm : F32} (h : F32.within Config.bpmMin Config.bpmMax bpm = true) :
    fmt32.mag bpm.nat < fmt32.infMag ∧ fmt32.isNeg bpm.nat = false ∧ oneMag ≤ fmt32.mag bpm.nat := by
  obtain ⟨hlo, hhi⟩ := F32.within_iff.mp h
  obtain ⟨-, -, hlo⟩ := Fmt.le_iff.mp hlo
  obtain ⟨-, -, hhi⟩ := Fmt.le_iff.mp hhi
  have hmin : (oneMag : Int) ≤ fmt32.key Config.bpmMin.nat := by decide +kernel
  have hmax : fmt32.key Config.bpmMax.nat < fmt32.infMag := by decide +kernel
  cases hneg : fmt32.isNeg bpm.nat with
  | true =>
    rw [Fmt.key_of_neg hneg] at hlo
    have : (0 : Int) < oneMag := by decide
    omega
  | false =>
    rw [Fmt.key_of_pos hneg] at hlo hhi
    exact ⟨by omega, rfl, by omega⟩

theorem framesPerStep_upTo {sr bpm : F32} (hsr : rateAccepted sr = true)
    (hbpm : F32.within Config.bpmMin Config.bpmMax bpm = true) : F64.UpTo 134 (framesPerStep sr bpm) := by
  obtain ⟨hsfin, hspos⟩ := rate_finite hsr
  obtain ⟨hbfin, hbpos, hbone⟩ := tempo_bounds hbpm
  have h60 : F64.UpTo 6 (F64.ofNat 60) := ⟨by decide +kernel, by decide +kernel⟩
  have h4 : F64.AtLeastOne (F64.ofNat 4) := ⟨by decide +kernel, by decide +kernel, by decide +kernel⟩
  have hsr60 := (F64.upTo_ofF32 hsfin hspos).mul h60 (by decide) (by decide)
  exact (hsr60.div (F64.atLeastOne_ofF32 hbfin hbpos hbone) (by decide)).div h4 (by decide)

/-- R303: a tick leaves the next firing or adds the length of a step to it. -/
theorem Transport.tick_nextStepFrame (sr : F32) (t : Transport) : (t.tick sr).nextStepFrame = t.nextStepFrame ∨
    (t.tick sr).nextStepFrame = t.nextStepFrame.add (framesPerStep sr t.bpm) := by
  unfold Transport.tick
  split
  · split
    · exact .inr rfl
    · exact .inl rfl
  · exact .inl rfl

/-- Settles O46: but for `PREPARE` and `RESET` the next firing stays or moves on by the length of a step. -/
theorem nextFiringNeverMovesBack : Obligations.NextFiringNeverMovesBack := by
  intro s t hsr hbpm hnan h
  rcases step_position h with hsame | hprep | hreset | ⟨-, htick, -⟩
  · rw [hsame.nextStepFrame]
    exact .inl (Fmt.le_refl hnan)
  · exact .inr (.inl hprep)
  · exact .inr (.inr hreset)
  · left
    rw [htick]
    rcases s.t.tick_nextStepFrame s.g.sr with he | he <;> rw [he]
    · exact Fmt.le_refl hnan
    · exact F64.le_add_of_upTo hnan (framesPerStep_upTo hsr hbpm) (by decide)

end Sys2Proof.Machine
end

section
/-! SUPPORT. Memory: the canonical form of every space is kept by every step (R70), and what writes the snapshot `P`
(R26, R347). -/

namespace Sys2Proof.Machine

/-! One theorem after another, as in Tests/Slice0.lean: checked at once they ask for more threads than the memory limit
allows. -/
set_option Elab.async false

/-! ## The pattern, the parameters and `OUT` (R24 to R26, R70) -/

/-- The spaces outside the effects, each in canonical form. -/
structure SpacesWf (s : State) : Prop where
  pat : Store.wf (fun _ => PatStep.clear) s.pat = true
  pt : Store.wf (ptReset s.cfg) s.pt = true
  p : Store.wf (ptReset s.cfg) s.p = true
  out : Store.wf (fun _ => F32.zero) s.out.cells = true

/-- The delay lines of the effects, each in canonical form. -/
structure LinesWf (s : State) : Prop where
  fx : FX.wf s.fx = true
  rv : Reverb.wf s.rv = true

theorem Memory.wf_iff {s : State} : Memory.wf s = true ↔ SpacesWf s ∧ LinesWf s := by
  simp only [Memory.wf, Bool.and_eq_true]
  constructor
  · rintro ⟨⟨⟨⟨⟨hpat, hpt⟩, hp⟩, hout⟩, hfx⟩, hrv⟩
    exact ⟨⟨hpat, hpt, hp, hout⟩, hfx, hrv⟩
  · rintro ⟨⟨hpat, hpt, hp, hout⟩, hfx, hrv⟩
    exact ⟨⟨⟨⟨⟨hpat, hpt⟩, hp⟩, hout⟩, hfx⟩, hrv⟩

theorem spacesWf_congr {s t : State} (hs : SpacesWf s) (hcfg : t.cfg = s.cfg) (hpat : t.pat = s.pat)
    (hpt : t.pt = s.pt) (hp : t.p = s.p) (hout : t.out = s.out) : SpacesWf t where
  pat := hpat ▸ hs.pat
  pt := by rw [hcfg, hpt]; exact hs.pt
  p := by rw [hcfg, hp]; exact hs.p
  out := hout ▸ hs.out

theorem spacesWf_putPat {s : State} (lane step : Nat) (e : PatStep) (hs : SpacesWf s) :
    SpacesWf (s.putPat lane step e) :=
  { hs with pat := State.wf_putPat s lane step e hs.pat }

theorem spacesWf_toggleStep {s : State} (lane step : BitVec 8) (on : Bool) (hs : SpacesWf s) :
    SpacesWf (s.toggleStep lane step on) := by
  rcases s.toggleStep_cases lane step on with ⟨-, he⟩ | ⟨-, he⟩ <;> rw [he]
  · exact hs
  · exact spacesWf_putPat _ _ _ hs

theorem spacesWf_setStep {s : State} (lane step : BitVec 8) (on : Bool) (v : F32) (hs : SpacesWf s) :
    SpacesWf (s.setStep lane step on v) := by
  rcases s.setStep_cases lane step on v with ⟨-, he⟩ | ⟨-, he⟩ <;> rw [he]
  · exact hs
  · exact spacesWf_putPat _ _ _ hs

theorem spacesWf_clearPattern {s : State} (hs : SpacesWf s) : SpacesWf s.clearPattern :=
  { hs with pat := Store.wf_nil _ }

theorem spacesWf_setParam {s : State} (index : BitVec 8) (v : F32) (hs : SpacesWf s) :
    SpacesWf (s.setParam index v) where
  pat := by simpa using hs.pat
  pt := by simpa using State.wf_setParam s index v hs.pt
  p := by simpa using hs.p
  out := by simpa using hs.out

theorem spacesWf_copyCell {s : State} (i : Nat) (hs : SpacesWf s) : SpacesWf (s.copyCell i) :=
  { hs with p := State.wf_copyCell s i hs.p }

theorem spacesWf_writeFrame {s : State} (n nc : Nat) (o : LR F32) (hs : SpacesWf s) :
    SpacesWf (s.writeFrame n nc o) :=
  { hs with out := OutBuf.wf_writeAll s.out _ _ hs.out }

/-- R345, R348: a new `OUT` lists no element. -/
theorem spacesWf_newOut {s : State} (n : Nat) (hs : SpacesWf s) : SpacesWf { s with out := ⟨n, []⟩ } :=
  { hs with out := Store.wf_nil _ }

/-- R400: the pattern, `PT` and `P` list no element. -/
theorem spacesWf_prepare {s : State} (sr : F32) (mb : BitVec 24) (hs : SpacesWf s) : SpacesWf (s.prepare sr mb) where
  pat := Store.wf_nil _
  pt := Store.wf_nil _
  p := Store.wf_nil _
  out := hs.out

theorem spacesWf_afterSnapshot {s : State} (r : Render) (hs : SpacesWf s) : SpacesWf (afterSnapshot r s) := by
  rcases afterSnapshot_cases r s with ⟨-, he⟩ | ⟨-, he⟩ <;> rw [he] <;> exact spacesWf_congr hs rfl rfl rfl rfl rfl

theorem spacesWf_snapStep {s : State} (r : Render) (hs : SpacesWf s) : SpacesWf (snapStep r s) := by
  rcases snapStep_cases r s with ⟨-, he⟩ | ⟨i, -, he⟩ | ⟨i, j, rest, -, he⟩ <;> rw [he]
  · exact spacesWf_afterSnapshot r hs
  · exact spacesWf_afterSnapshot r (spacesWf_copyCell i hs)
  · exact spacesWf_congr (spacesWf_copyCell i hs) rfl rfl rfl rfl rfl

/-- R352: of these spaces a tick writes `OUT` alone. -/
theorem spacesWf_tickStep {s : State} (r : Render) (hs : SpacesWf s) : SpacesWf (tickStep r s) := by
  have hframe := spacesWf_writeFrame r.n.toNat r.numChannels.toNat (tick s).1
    (spacesWf_congr hs (tick_cfg s) (tick_pat s) (tick_pt s) (tick_p s) (tick_out s))
  rcases tickStep_cases r s with ⟨-, he⟩ | ⟨-, he⟩ <;> rw [he] <;> exact spacesWf_congr hframe rfl rfl rfl rfl rfl

theorem advance_keeps_spacesWf {s t : State} (hs : SpacesWf s) (h : Advance s t) : SpacesWf t := by
  cases h with
  | toggled w rest hq lane step on =>
    exact spacesWf_toggleStep lane step on (spacesWf_congr (t := { s with q := rest }) hs rfl rfl rfl rfl rfl)
  | snapped r hr hp => exact spacesWf_snapStep r hs
  | ticked r hr hp => exact spacesWf_tickStep r hs
  | _ => exact spacesWf_congr hs (by simp) (by simp) (by simp) (by simp) (by simp)

theorem taken_keeps_spacesWf {x : Presented} {s t : State} (hs : SpacesWf s) (h : Taken x s t) : SpacesWf t := by
  cases h with
  | prepared sr mb hx hd hsr => exact spacesWf_congr (spacesWf_prepare sr mb hs) rfl rfl rfl rfl rfl
  | stepSet lane step on v => exact spacesWf_congr (spacesWf_setStep lane step on v hs) rfl rfl rfl rfl rfl
  | patternCleared => exact spacesWf_congr (spacesWf_clearPattern hs) rfl rfl rfl rfl rfl
  | paramSet index v => exact spacesWf_congr (spacesWf_setParam index v hs) rfl rfl rfl rfl rfl
  | accepted nf nc hp => exact spacesWf_congr (spacesWf_newOut _ hs) rfl rfl rfl rfl rfl
  | zeroed nf nc hp hr => exact spacesWf_congr (spacesWf_newOut _ hs) rfl rfl rfl rfl rfl
  | _ => exact spacesWf_congr hs (by simp) (by simp) (by simp) (by simp) (by simp)

/-! ## The delay lines (R49, R53, R54, R70) -/

theorem fourAll_iff {α : Type} {P : α → Bool} {a : Four α} : fourAll P a = true ↔
    P a.j0 = true ∧ P a.j1 = true ∧ P a.j2 = true ∧ P a.j3 = true := by
  simp [fourAll, and_assoc]

theorem twoAll_iff {α : Type} {P : α → Bool} {a : Two α} : twoAll P a = true ↔
    P a.j0 = true ∧ P a.j1 = true := by
  simp [twoAll]

theorem lrAll_iff {α : Type} {P : α → Bool} {a : LR α} : lrAll P a = true ↔ P a.l = true ∧ P a.r = true := by
  simp [lrAll]

theorem Reverb.wf_iff {rv : Reverb} : Reverb.wf rv = true ↔
    lrAll (fourAll Comb.wf) rv.comb = true ∧ lrAll (twoAll Delay.wf) rv.ap = true := by
  simp [Reverb.wf]

theorem diffuse_wf (n : Four Nat) (g d x : F32) {ap : Four Delay} (h : fourAll Delay.wf ap = true) :
    fourAll Delay.wf (diffuse n g d x ap).2 = true := by
  obtain ⟨h0, h1, h2, h3⟩ := fourAll_iff.mp h
  exact fourAll_iff.mpr ⟨Allpass.wf_step _ _ _ _ h0, Allpass.wf_step _ _ _ _ h1, Allpass.wf_step _ _ _ _ h2,
    Allpass.wf_step _ _ _ _ h3⟩

theorem reverbChannel_wf (c : Cfg) (inp fb dp : F32) (nc : Four Nat) (na : Two Nat) {cb : Four Comb}
    {ap : Two Delay} (hcb : fourAll Comb.wf cb = true) (hap : twoAll Delay.wf ap = true) :
    fourAll Comb.wf (reverbChannel c inp fb dp nc na cb ap).2.1 = true ∧
      twoAll Delay.wf (reverbChannel c inp fb dp nc na cb ap).2.2 = true := by
  obtain ⟨h0, h1, h2, h3⟩ := fourAll_iff.mp hcb
  obtain ⟨ha0, ha1⟩ := twoAll_iff.mp hap
  exact ⟨fourAll_iff.mpr ⟨Comb.wf_step _ _ _ _ _ h0, Comb.wf_step _ _ _ _ _ h1, Comb.wf_step _ _ _ _ _ h2,
      Comb.wf_step _ _ _ _ _ h3⟩,
    twoAll_iff.mpr ⟨Allpass.wf_step _ _ _ _ ha0, Allpass.wf_step _ _ _ _ ha1⟩⟩

/-- R257: of the chain's stages the diffuser alone has delay lines. -/
theorem FX.wf_process (c : Cfg) (p : Nat → F32) (sr k : F32) {fx : FX} (h : FX.wf fx = true) :
    FX.wf (fx.process c p sr k).2 = true := by
  refine FX.process_keeps (P := fun f => FX.wf f = true) c p sr k (fun _ _ hf => hf) (fun x f hf => ?_)
    (fun _ _ hf => hf) (fun _ _ hf => hf) (fun _ _ hf => hf) h
  obtain ⟨hl, hr⟩ := lrAll_iff.mp hf
  exact lrAll_iff.mpr ⟨diffuse_wf c.difLen.l c.difG (p Param.FX_DIFFUSE) x.l hl,
    diffuse_wf c.difLen.r c.difG (p Param.FX_DIFFUSE) x.r hr⟩

theorem Reverb.wf_process (c : Cfg) (p : Nat → F32) (k : F32) {rv : Reverb} (h : Reverb.wf rv = true) :
    Reverb.wf (rv.process c p k).2 = true := by
  obtain ⟨hcomb, hap⟩ := Reverb.wf_iff.mp h
  obtain ⟨hcombl, hcombr⟩ := lrAll_iff.mp hcomb
  obtain ⟨hapl, hapr⟩ := lrAll_iff.mp hap
  obtain ⟨hl1, hl2⟩ := reverbChannel_wf c (k.mul c.revInGain)
    (c.revFbBase.add (c.revFbScale.mul (p Param.REV_SIZE))) ((p Param.REV_DAMP).mul c.revDampScale)
    c.revCombLen.l c.revApLen.l hcombl hapl
  obtain ⟨hr1, hr2⟩ := reverbChannel_wf c (k.mul c.revInGain)
    (c.revFbBase.add (c.revFbScale.mul (p Param.REV_SIZE))) ((p Param.REV_DAMP).mul c.revDampScale)
    c.revCombLen.r c.revApLen.r hcombr hapr
  exact Reverb.wf_iff.mpr ⟨lrAll_iff.mpr ⟨hl1, hr1⟩, lrAll_iff.mpr ⟨hl2, hr2⟩⟩

theorem linesWf_congr (u v : State) (hu : LinesWf u) (h : SameSound u v) : LinesWf v :=
  ⟨h.fx ▸ hu.fx, h.rv ▸ hu.rv⟩

/-- R400, R401: fresh lines list no element. -/
theorem linesWf_resetSound (s : State) : LinesWf s.resetSound := ⟨Memory.wf_fxReset, Memory.wf_reverbReset⟩

/-- R262: a trigger touches no delay line. -/
theorem linesWf_triggerStep {s : State} (st : Nat) (hs : LinesWf s) : LinesWf (triggerStep st s) := by
  refine ⟨?_, hs.rv⟩
  rcases triggerStep_fx st s with he | he <;> rw [he] <;> exact hs.fx

theorem linesWf_soundStep {s : State} (hs : LinesWf s) : LinesWf (soundStep s).2 :=
  ⟨FX.wf_process _ _ _ _ hs.fx, Reverb.wf_process _ _ _ hs.rv⟩

theorem linesWf_tick {s : State} (hs : LinesWf s) : LinesWf (tick s).2 :=
  tick_keeps_sound linesWf_congr (linesWf_triggerStep _ hs) linesWf_soundStep hs

/-- Settles O30: a space is written only element by element, by `Store.put`, or emptied; the spaces outside the effects
follow the micro-steps, the delay lines the sound. -/
theorem stepKeepsMemoryCanonical : Obligations.StepKeepsMemoryCanonical := by
  intro s t hs h
  obtain ⟨hspaces, hlines⟩ := Memory.wf_iff.mp hs
  refine Memory.wf_iff.mpr ⟨?_, ?_⟩
  · exact step_keeps (fun _ _ hs => spacesWf_congr hs rfl rfl rfl rfl rfl) (fun _ _ => advance_keeps_spacesWf)
      (fun _ _ _ => taken_keeps_spacesWf) hspaces h
  · exact step_keeps_sound linesWf_congr (linesWf_resetSound s)
      (fun ib => linesWf_tick (s := { s with inbox := ib }) ⟨hlines.fx, hlines.rv⟩) hlines h

/-! ## The snapshot (R26, R347, R400) -/

theorem advance_p {s t : State} (h : Advance s t) :
    t.p = s.p ∨ ∃ r, s.g.render = some r ∧ r.phase = .snap := by
  cases h with
  | snapped r hr hp => exact .inr ⟨r, hr, hp⟩
  | _ => exact .inl (by simp)

theorem taken_p {x : Presented} {s t : State} (h : Taken x s t) :
    t.p = s.p ∨ (x.port = .ctrl ∧ ∃ sr mb, rateAccepted sr = true ∧ decode x.word = .ok (.prepare sr mb)) := by
  cases h with
  | prepared sr mb hx hd hsr => exact .inr ⟨hx, sr, mb, hsr, hd⟩
  | _ => exact .inl (by simp)

/-- Settles O44: of the engine's micro-steps a snapshot step alone writes `P`, of the words an accepted `PREPARE`. -/
theorem onlySnapshotStepsChangeP : Obligations.OnlySnapshotStepsChangeP := by
  intro s t h hchanged
  rcases step_inv h with ⟨hno, ib, ha⟩ | ⟨x, rest, hin, hnow, ht⟩
  · rcases advance_p ha with hsame | hsnap
    · exact absurd hsame hchanged
    · exact .inr ⟨hno, hsnap⟩
  · rcases taken_p ht with hsame | ⟨hx, sr, mb, hsr, hd⟩
    · exact absurd hsame hchanged
    · exact .inl ⟨sr, mb, hsr, x, rest, hin, hx, hd, hnow⟩

end Sys2Proof.Machine
end

section
/-! SUPPORT. Words: the byte image of a word (R76), and the operation a step runs from the inbox or from the queue (R80,
R101, R320, R346). -/

namespace Sys2Proof

/-! ## The byte image of a word (R76) -/

theorem bytesOfWord_length (k n : Nat) : (bytesOfWord k n).length = k := by
  induction k generalizing n with
  | zero => rfl
  | succ k ih => rw [bytesOfWord, List.length_cons, ih]

/-- R76: `k` little-endian bytes hold the value below `256^k`. -/
theorem wordOfBytes_bytesOfWord (k n : Nat) : wordOfBytes (bytesOfWord k n) = n % 256 ^ k := by
  induction k generalizing n with
  | zero => rw [bytesOfWord, wordOfBytes, pow_zero, Nat.mod_one]
  | succ k ih =>
    calc wordOfBytes (bytesOfWord (k + 1) n)
        = n % 256 + 256 * wordOfBytes (bytesOfWord k (n / 256)) := by
          rw [bytesOfWord, wordOfBytes, BitVec.toNat_ofNat]
      _ = n % 256 + 256 * (n / 256 % 256 ^ k) := by rw [ih]
      _ = n % 256 ^ (k + 1) := by rw [pow_succ', Nat.mod_mul]

theorem decodeBytes_bytesOfWord (w : W64) : decodeBytes (bytesOfWord 8 w.toNat) = decode w := by
  have hfits : w.toNat < 256 ^ 8 := w.isLt
  have hword : BitVec.ofNat 64 (wordOfBytes (bytesOfWord 8 w.toNat)) = w := by
    rw [wordOfBytes_bytesOfWord, Nat.mod_eq_of_lt hfits, BitVec.ofNat_toNat, BitVec.setWidth_eq]
  rw [decodeBytes, if_pos (bytesOfWord_length 8 w.toNat), hword]

/-- A table word of 64 bits is read whole. -/
theorem decodeTableWord_toNat (w : W64) : decodeTableWord 64 w.toNat = (decode w).toOption := by
  rw [decodeTableWord, Nat.mod_eq_of_lt w.isLt, decodeBytes_bytesOfWord]
  cases decode w <;> rfl

/-- Settles O5: the eight bytes hold the whole word, so both readings decode the word itself. -/
theorem byteImageDecodesAsWord : Obligations.ByteImageDecodesAsWord := by
  refine fun w => ⟨decodeBytes_bytesOfWord w, ?_⟩
  rw [decodeTableWord_toNat]
  cases decode w <;> rfl

end Sys2Proof

namespace Sys2Proof.Machine

/-! ## The operation a step runs (R80, R101, R320, R346) -/

theorem step_of_takesNow {s : State} {x : Presented} {rest : List Presented} (hin : s.inbox = x :: rest)
    (hnow : takesNow x s = true) : step s = present x { s with inbox := rest } := by
  simp [step, hin, hnow]

theorem step_of_not_takesNow {s : State} {x : Presented} {rest : List Presented} (hin : s.inbox = x :: rest)
    (hno : takesNow x s = false) :
    step s = engineStep { s with inbox := { x with arrival := x.arrival.sooner } :: rest } := by
  simp [step, hin, hno]

theorem step_of_noInbox {s : State} (hin : s.inbox = []) : step s = engineStep s := by
  simp [step, hin]

theorem takesNow_of_idle {s : State} (hidle : s.g.busy = false) (x : Presented) : takesNow x s = true := by
  simp [takesNow, hidle]

/-- R402: a CTRL operation that is not held acts as soon as it arrives, also while a render is in flight. -/
theorem takesNow_of_not_holds {x : Presented} {i : Instr} (harr : x.arrival = .after 0) (hx : x.port = .ctrl)
    (hi : portInstr x = some i) (hh : holds i = false) (s : State) : takesNow x s = true := by
  simp [takesNow, mustWait, harr, hx, hi, hh]

/-- R346: while the engine drains, its micro-step applies the command at the head of the queue. -/
theorem engineStep_command {s : State} {r : Render} {w : W64} {rest : List W64} {i : Instr}
    (hr : s.g.render = some r) (hp : r.phase = .drain) (hq : s.q = w :: rest) (hd : decode w = .ok i)
    (hi : i.port = .cmd) : engineStep s = exec i { s with q := rest } := by
  simp [engineStep, drainStep, hr, hp, hq, hd, hi]

/-- Settles O6: in each clause the step is the port's or the engine's, and that one runs the operation decoded. -/
theorem stepRunsTheDecodedOperation : Obligations.StepRunsTheDecodedOperation := by
  refine ⟨?_, ?_, ?_⟩
  · intro s x rest i hin hx hd hi hacts
    have hinstr : portInstr x = some i := portInstr_eq hd hi
    have hnow : takesNow x s = true := by
      rcases hacts with hidle | ⟨harr, hctrl, hh⟩
      · exact takesNow_of_idle hidle x
      · exact takesNow_of_not_holds harr hctrl hinstr hh s
    rw [step_of_takesNow hin hnow, present_some hx hinstr]
  · intro s r w rest i hin hr hp hq hd hi
    exact (step_of_noInbox hin).trans (engineStep_command hr hp hq hd hi)
  · intro s x xs r w rest i hin hno hr hp hq hd hi
    exact (step_of_not_takesNow hin hno).trans (engineStep_command hr hp hq hd hi)

end Sys2Proof.Machine
end

section
/-! SUPPORT. Encoding: the operation of an opcode with its operands read from a word's fields (R100, R103), which the
decoder gives (R118) and the encoder inverts (R102), and the opcodes it rejects (R119). -/

namespace Sys2Proof

/-! ## An opcode and the fields give the operation (R102, R103, R118) -/

/-- The operation with `i`'s opcode whose operands are read from the fields (R103); `i`'s own operands do not count. -/
def Instr.withFields (i : Instr) (a b c : BitVec 8) (imm : BitVec 32) : Instr :=
  match i with
  | .prepare _ _ => .prepare ⟨imm⟩ (a ++ b ++ c)
  | .reset => .reset
  | .setBpm _ => .setBpm ⟨imm⟩
  | .setPlaying _ => .setPlaying (c.getLsbD 0)
  | .setStep _ _ _ _ => .setStep a b (c.getLsbD 0) ⟨imm⟩
  | .clearPattern => .clearPattern
  | .setParam _ _ => .setParam a ⟨imm⟩
  | .getStepIndex => .getStepIndex
  | .getBpm => .getBpm
  | .isPlaying => .isPlaying
  | .cmdToggleStep _ _ _ => .cmdToggleStep a b (c.getLsbD 0)
  | .cmdSetBpm _ => .cmdSetBpm ⟨imm⟩
  | .cmdSetPlaying _ => .cmdSetPlaying (c.getLsbD 0)
  | .process _ _ => .process imm a

@[simp] theorem Instr.opcode_withFields (i : Instr) (a b c : BitVec 8) (imm : BitVec 32) :
    (i.withFields a b c imm).opcode = i.opcode := by
  cases i <;> rfl

/-- R118: the opcode selects the operation, and R103's fields are its operands, whatever the other fields hold. -/
theorem decode_make (i : Instr) (a b c : BitVec 8) (imm : BitVec 32) :
    decode (Word.make i.opcode a b c imm) = .ok (i.withFields a b c imm) := by
  cases i <;> simp [decode, Instr.opcode, Instr.withFields]

/-- Settles O2: each clause is `decode_make` at an operation of its opcode. -/
theorem operandFieldsAndIgnoredBits : Obligations.OperandFieldsAndIgnoredBits := fun a b c imm =>
  ⟨decode_make (.prepare ⟨0⟩ 0) a b c imm, decode_make .reset a b c imm, decode_make (.setBpm ⟨0⟩) a b c imm,
    decode_make (.setPlaying false) a b c imm, decode_make (.setStep 0 0 false ⟨0⟩) a b c imm,
    decode_make .clearPattern a b c imm, decode_make (.setParam 0 ⟨0⟩) a b c imm, decode_make .getStepIndex a b c imm,
    decode_make .getBpm a b c imm, decode_make .isPlaying a b c imm, decode_make (.cmdToggleStep 0 0 false) a b c imm,
    decode_make (.cmdSetBpm ⟨0⟩) a b c imm, decode_make (.cmdSetPlaying false) a b c imm,
    decode_make (.process 0 0) a b c imm⟩

/-- Settles O4: each word is made from its opcode and fields, the unused ones included. -/
theorem specWordsDecode : Obligations.SpecWordsDecode :=
  ⟨decode_make (.setStep 0 0 false ⟨0⟩) 0#8 4#8 1#8 0x3F4CCCCD#32,
    decode_make (.cmdSetBpm ⟨0⟩) 0#8 0#8 0#8 0x42B40000#32,
    decode_make (.process 0 0) 2#8 0#8 0#8 512#32,
    decode_make (.prepare ⟨0⟩ 0) 0#8 2#8 0#8 0x473B8000#32,
    decode_make (.setBpm ⟨0⟩) 0xFF#8 0xFF#8 0xFF#8 0x42B40000#32,
    decode_make (.setPlaying false) 0#8 0#8 0xFE#8 0#32⟩

/-! ## The encoder's fields (R102, R104 to R117) -/

/-- R104: the three fields `PREPARE` splits its block size into hold the whole of it. -/
theorem extract_append_extract (mb : BitVec 24) :
    mb.extractLsb' 16 8 ++ mb.extractLsb' 8 8 ++ mb.extractLsb' 0 8 = mb := by
  refine BitVec.eq_of_getLsbD_eq fun i hi => ?_
  simp only [BitVec.getLsbD_append, BitVec.getLsbD_extractLsb']
  interval_cases i <;> simp

/-- The canonical word has the opcode, and fields that hold every operand. -/
theorem encode_eq_make (i : Instr) :
    ∃ a b c imm, encode i = Word.make i.opcode a b c imm ∧ i.withFields a b c imm = i := by
  cases i with
  | prepare sr mb => exact ⟨_, _, _, _, rfl, congrArg (Instr.prepare sr) (extract_append_extract mb)⟩
  | setPlaying on => exact ⟨_, _, _, _, rfl, congrArg Instr.setPlaying (onField_bit on)⟩
  | setStep lane step on v => exact ⟨_, _, _, _, rfl, congrArg (Instr.setStep lane step · v) (onField_bit on)⟩
  | cmdToggleStep lane step on => exact ⟨_, _, _, _, rfl, congrArg (Instr.cmdToggleStep lane step) (onField_bit on)⟩
  | cmdSetPlaying on => exact ⟨_, _, _, _, rfl, congrArg Instr.cmdSetPlaying (onField_bit on)⟩
  | _ => exact ⟨_, _, _, _, rfl, rfl⟩

/-- Settles O1: the decoder reads the operands back from the fields the encoder wrote. -/
theorem decodeInvertsEncode : Obligations.DecodeInvertsEncode := by
  intro i
  obtain ⟨a, b, c, imm, hword, hfields⟩ := encode_eq_make i
  rw [hword, decode_make, hfields]

/-! ## The opcode alone decides (R118, R119) -/

/-- R100: a word is its five fields. -/
theorem Word.make_fields (w : W64) : Word.make (Word.opc w) (Word.a w) (Word.b w) (Word.c w) (Word.imm w) = w := by
  simp only [Word.make, Word.opc, Word.a, Word.b, Word.c, Word.imm]
  refine BitVec.eq_of_getLsbD_eq fun i hi => ?_
  simp only [BitVec.getLsbD_append, BitVec.getLsbD_extractLsb']
  interval_cases i <;> simp

/-- Every word with an operation's opcode decodes to that operation, with the word's fields as operands. -/
theorem decode_of_opc {w : W64} {i : Instr} (h : i.opcode = Word.opc w) :
    decode w = .ok (i.withFields (Word.a w) (Word.b w) (Word.c w) (Word.imm w)) := by
  rw [← decode_make, h, Word.make_fields]

/-- R118: what a word decodes to has the word's opcode. -/
theorem opcode_of_decode_ok {w : W64} {i : Instr} (h : decode w = .ok i) : i.opcode = Word.opc w := by
  unfold decode at h
  split at h <;> cases h <;> exact BitVec.eq_of_toNat_eq (Eq.symm ‹_›)

/-- R119: the only error a word can meet is its own opcode being reserved. -/
theorem decode_error_eq {w : W64} {e : DecodeError} (h : decode w = .error e) :
    e = .reservedOpcode (Word.opc w) := by
  unfold decode at h
  split at h <;> cases h
  rfl

/-- An operation of each opcode, in the order of R118. -/
def Instr.oneOfEach : List Instr :=
  [.prepare ⟨0⟩ 0, .reset, .setBpm ⟨0⟩, .setPlaying false, .setStep 0 0 false ⟨0⟩, .clearPattern, .setParam 0 ⟨0⟩,
    .getStepIndex, .getBpm, .isPlaying, .cmdToggleStep 0 0 false, .cmdSetBpm ⟨0⟩, .cmdSetPlaying false, .process 0 0]

theorem mem_opcodes_iff {o : BitVec 8} : o ∈ Instr.oneOfEach.map Instr.opcode ↔ ∃ i : Instr, i.opcode = o := by
  constructor
  · intro h
    obtain ⟨i, -, hi⟩ := List.mem_map.mp h
    exact ⟨i, hi⟩
  · rintro ⟨i, rfl⟩
    cases i <;> simp [Instr.oneOfEach, Instr.opcode]

/-- Settles O3: the fourteen bytes listed are the opcodes of the operations, and an error can only be R119's. -/
theorem opcodeAloneSelects : Obligations.OpcodeAloneSelects := by
  refine fun w => ⟨fun hlisted => ?_, fun hunlisted => ?_⟩
  · obtain ⟨i, hi⟩ := mem_opcodes_iff.mp hlisted
    exact ⟨_, decode_of_opc hi, (i.opcode_withFields _ _ _ _).trans hi⟩
  · cases hd : decode w with
    | ok i => exact absurd (mem_opcodes_iff.mpr ⟨i, opcode_of_decode_ok hd⟩) hunlisted
    | error e => rw [decode_error_eq hd]

end Sys2Proof
end

section
/-! SUPPORT. One `next` of an envelope (R131, R136, R138): what each phase outputs and leaves, and why a decay never
raises the value: a product of members of [0, 1] has at most its first factor's magnitude, and magnitudes order [0, 1]. -/

namespace Sys2Proof.Machine

set_option Elab.async false

/-! ## The order of the unit interval -/

/-- The order key of a member of [0, 1] is its magnitude, for a zero of either sign too. -/
theorem F32.unit_key {x : F32} (hx : F32.unit x = true) : fmt32.key x.nat = fmt32.mag x.nat := by
  cases hneg : fmt32.isNeg x.nat with
  | false => exact Fmt.key_of_pos hneg
  | true => simp [Fmt.key_of_neg hneg, (F32.unit_iff.mp hx).2 hneg]

theorem F32.unit_le_iff {x y : F32} (hx : F32.unit x = true) (hy : F32.unit y = true) :
    x.le y = true ↔ fmt32.mag x.nat ≤ fmt32.mag y.nat := by
  have hnx := (Fmt.finite_iff.mp (F32.unit_finite hx)).1
  have hny := (Fmt.finite_iff.mp (F32.unit_finite hy)).1
  rw [F32.le, Fmt.le_iff, F32.unit_key hx, F32.unit_key hy]
  simp [hnx, hny]

/-! ## Products by a member of the unit interval -/

/-- Rounding a product by a member of [0, 1] never passes the magnitude of the finite first factor. -/
theorem F32.mag_mul_le {x y : F32} (hx : fmt32.mag x.nat < fmt32.infMag) (hy : F32.unit y = true) :
    fmt32.mag (x.mul y).nat ≤ fmt32.mag x.nat := by
  have hfit := fmt32.roundMag_lt_signBit (fmt32.scaled (fmt32.mag x.nat) * fmt32.scaled (fmt32.mag y.nat))
    (2 ^ fmt32.unit)
  rw [F32.mul, Fmt.mul_finite hx (F32.unit_finite hy), F32.nat_ofPattern _ (Fmt.pack_lt _ hfit), Fmt.mag_pack _ hfit]
  exact fmt32.roundMag_le _ _ _ (Nat.two_pow_pos _) (Nat.mul_le_mul_left _ (F32.unit_scaled_le hy))

/-- R138: scaling a member of [0, 1] by another never raises it. -/
theorem F32.unit_mul_le {x y : F32} (hx : F32.unit x = true) (hy : F32.unit y = true) : (x.mul y).le x = true :=
  (F32.unit_le_iff (F32.unit_mul hx hy) hx).mpr (F32.mag_mul_le (F32.unit_finite hx) hy)

/-! ## The attack-decay envelope by phase (R136) -/

theorem ADEnv.next_output_off {e : ADEnv} (h : e.state = .off) (ca cd : F32) : (e.next ca cd).1 = F32.zero := by
  simp [ADEnv.next, h]

theorem ADEnv.next_output_attack {e : ADEnv} (h : e.state = .attack) (ca cd : F32) :
    (e.next ca cd).1 = attackValue e.value ca := by
  simp [ADEnv.next, h]

theorem ADEnv.next_output_decay {e : ADEnv} (h : e.state = .decay) (ca cd : F32) : (e.next ca cd).1 = e.value := by
  simp [ADEnv.next, h]

theorem ADEnv.next_value_decay {e : ADEnv} (h : e.state = .decay) (ca cd : F32) :
    (e.next ca cd).2.value = e.value.mul cd := by
  simp [ADEnv.next, h]

/-- An envelope in [0, 1] outputs 0, its attack value or its value, each of them in [0, 1]. -/
theorem ADEnv.unit_next_output {e : ADEnv} {ca : F32} (he : F32.unit e.value = true) (hca : F32.unit ca = true)
    (cd : F32) : F32.unit (e.next ca cd).1 = true := by
  cases h : e.state with
  | off => rw [ADEnv.next_output_off h]; exact F32.unit_zero
  | attack => rw [ADEnv.next_output_attack h]; exact attackValue_unit he hca
  | decay => rw [ADEnv.next_output_decay h]; exact he

/-- Settles O59: both decays scale a member of [0, 1] by another; an attack takes members of [0, 1] from 1. -/
theorem envelopeStepsStayInUnit : Obligations.EnvelopeStepsStayInUnit := by
  refine ⟨fun e c he hc => ?_, fun e ca cd he hca hcd => ?_⟩
  · exact ⟨rfl, F32.unit_mul_le he hc, DecayEnv.unit_next he hc⟩
  · refine ⟨ADEnv.unit_next_output he hca cd, ADEnv.unit_next he hca hcd, fun hdecay => ?_⟩
    rw [ADEnv.next_value_decay hdecay]
    exact F32.unit_mul_le he hcd

end Sys2Proof.Machine
end

section
/-! SUPPORT. Delay lines over many pushes (R170): the cursor goes round, and a push leaves what stands elsewhere. -/

namespace Sys2Proof.Machine

set_option Elab.async false

/-- The line after every value of a list has been written, in order. -/
def Delay.pushAll (n : Nat) (d : Delay) (vs : List F32) : Delay := vs.foldl (fun d x => d.push n x) d

@[simp] theorem Delay.pushAll_nil (n : Nat) (d : Delay) : d.pushAll n [] = d := rfl

@[simp] theorem Delay.pushAll_cons (n : Nat) (d : Delay) (v : F32) (vs : List F32) :
    d.pushAll n (v :: vs) = (d.push n v).pushAll n vs := rfl

@[simp] theorem Delay.idx_push (n : Nat) (d : Delay) (v : F32) : (d.push n v).idx = (d.idx + 1) % n := rfl

/-- Each write moves the cursor on by one, with wrap. -/
theorem Delay.idx_pushAll {n : Nat} {d : Delay} (vs : List F32) (hd : d.idx < n) :
    (d.pushAll n vs).idx = (d.idx + vs.length) % n := by
  induction vs generalizing d with
  | nil => exact (Nat.mod_eq_of_lt hd).symm
  | cons v vs ih =>
    rw [Delay.pushAll_cons, ih (Nat.mod_lt _ (by omega)), Delay.idx_push, Nat.mod_add_mod, List.length_cons,
      Nat.add_assoc, Nat.add_comm 1]

/-- An element the cursor does not come to stays as it was. -/
theorem Delay.get_pushAll_of_ne {n i : Nat} {d : Delay} (vs : List F32) (hd : d.idx < n)
    (h : ∀ k < vs.length, (d.idx + k) % n ≠ i) :
    Store.get F32.zero (d.pushAll n vs).buf i = Store.get F32.zero d.buf i := by
  induction vs generalizing d with
  | nil => rfl
  | cons v vs ih =>
    have hfirst : i ≠ d.idx := by
      have h0 := h 0 (Nat.succ_pos _)
      rw [Nat.add_zero, Nat.mod_eq_of_lt hd] at h0
      exact h0.symm
    rw [Delay.pushAll_cons, ih (Nat.mod_lt _ (by omega)), Delay.get_push_ne n d v i hfirst]
    intro k hk
    have hnext := h (k + 1) (Nat.succ_lt_succ hk)
    rwa [Delay.idx_push, Nat.mod_add_mod, Nat.add_assoc, Nat.add_comm 1]

/-- The cursor of a line of `n` elements is back after `n` steps and not before. -/
theorem cursor_returns_iff {n i k : Nat} (hi : i < n) (hk : k < n) : (i + 1 + k) % n = i ↔ k + 1 = n := by
  rcases Nat.lt_or_ge (i + 1 + k) n with hlt | hge
  · rw [Nat.mod_eq_of_lt hlt]; omega
  · rw [Nat.mod_eq_sub_mod hge, Nat.mod_eq_of_lt (by omega)]; omega

/-- Settles O56: the `n - 1` writes after the first go to the other elements, and bring the cursor back to it. -/
theorem delayReturnsAfterItsLength : Obligations.DelayReturnsAfterItsLength := by
  intro n d v vs hn hwf hin hlen
  have hidx : d.idx < n := by
    simp only [Delay.inside, Bool.and_eq_true, decide_eq_true_eq] at hin
    exact hin.1
  have hnext : (d.push n v).idx < n := Nat.mod_lt _ hn
  have hback : ((d.push n v).pushAll n vs).idx = d.idx := by
    rw [Delay.idx_pushAll vs hnext, Delay.idx_push, Nat.mod_add_mod]
    exact (cursor_returns_iff hidx (by omega)).mpr hlen
  have haway : ∀ k < vs.length, ((d.push n v).idx + k) % n ≠ d.idx := by
    intro k hk
    rw [Delay.idx_push, Nat.mod_add_mod, ne_eq, cursor_returns_iff hidx (by omega)]
    omega
  calc ((d.push n v).pushAll n vs).read
      = Store.get F32.zero ((d.push n v).pushAll n vs).buf d.idx := by rw [Delay.read, hback]
    _ = Store.get F32.zero (d.push n v).buf d.idx := Delay.get_pushAll_of_ne vs hnext haway
    _ = v := Delay.get_push_same n d v hwf

end Sys2Proof.Machine
end

section
/-! SUPPORT. Values of binary32 (R13): a finite float as an integer number of the smallest subnormal. Comparisons are
comparisons of values; a difference, a product and a remainder round a value, and rounding passes no float. -/

namespace Sys2Proof

set_option Elab.async false

/-! ## Rounding -/

/-- A quotient less than half above an integer rounds to at most that integer. -/
theorem roundDiv_le_of_lt_half {num den r : Nat} (hd : 0 < den) (h : 2 * num < (2 * r + 1) * den) :
    roundDiv num den ≤ r := by
  have hq := Nat.div_add_mod num den
  have hle : num / den ≤ r := by
    rw [← Nat.lt_succ_iff, Nat.div_lt_iff_lt_mul hd, Nat.succ_mul]
    rw [Nat.add_mul, Nat.mul_assoc] at h
    omega
  unfold roundDiv
  split
  · next hup =>
    refine Nat.lt_of_le_of_ne hle fun heq => ?_
    rw [heq, Nat.mul_comm] at hq
    rw [Nat.add_mul, Nat.mul_assoc] at h
    omega
  · exact hle

/-- Rounding an integer number of units never passes a finite value from below. -/
theorem Fmt.key_round_le {f : Fmt} {a : Nat} {v : Int} (ha : f.mag a < f.infMag) (h : v ≤ f.toInt a) :
    f.key (f.pack (decide (v < 0)) (f.roundMag v.natAbs 1)) ≤ f.key a := by
  have hfit := f.roundMag_lt_signBit v.natAbs 1
  have hsign := Fmt.isNeg_pack (decide (v < 0)) hfit
  by_cases hv : v < 0
  · rw [Fmt.key_of_neg (hsign.trans (decide_eq_true hv)), Fmt.mag_pack _ hfit]
    cases hneg : f.isNeg a with
    | false => rw [Fmt.key_of_pos hneg]; omega
    | true =>
      rw [Fmt.toInt_of_neg hneg] at h
      have hge := f.le_roundMag v.natAbs 1 (f.mag a) Nat.one_pos (Nat.le_of_lt ha) (by omega)
      rw [Fmt.key_of_neg hneg]
      omega
  · rw [Fmt.key_of_pos (hsign.trans (decide_eq_false hv)), Fmt.mag_pack _ hfit]
    cases hneg : f.isNeg a with
    | false =>
      rw [Fmt.toInt_of_pos hneg] at h
      have hle := f.roundMag_le v.natAbs 1 (f.mag a) Nat.one_pos (by omega)
      rw [Fmt.key_of_pos hneg]
      omega
    | true =>
      rw [Fmt.toInt_of_neg hneg] at h
      have hround := f.roundMag_le v.natAbs 1 0 Nat.one_pos (by omega)
      have hmag : f.mag a ≤ 0 :=
        (f.scaled_le_iff _ 0 (Nat.le_of_lt ha) (Nat.zero_le _)).mp (by rw [Fmt.scaled_zero]; omega)
      rw [Fmt.key_of_neg hneg]
      omega

/-- The magnitude bits of twice a value. -/
def Fmt.double (f : Fmt) (m : Nat) : Nat := if m / 2 ^ f.mant = 0 then 2 * m else m + 2 ^ f.mant

theorem Fmt.double_le (f : Fmt) (m : Nat) : f.double m ≤ m + 2 ^ f.mant := by
  unfold Fmt.double
  split
  · next h => have := (Nat.div_eq_zero_iff_lt (Nat.two_pow_pos f.mant)).mp h; omega
  · exact Nat.le_refl _

/-- Doubling is exact: a normal value's exponent rises by one, a subnormal's fraction doubles. -/
theorem Fmt.scaled_double (f : Fmt) (m : Nat) : f.scaled (f.double m) = 2 * f.scaled m := by
  have hp : 0 < 2 ^ f.mant := Nat.two_pow_pos _
  by_cases h : m / 2 ^ f.mant = 0
  · have hm := (Nat.div_eq_zero_iff_lt hp).mp h
    rw [Fmt.double, if_pos h, Fmt.scaled, Fmt.scaled, if_pos h]
    split
    · rfl
    · next hne =>
      have hge : 2 ^ f.mant ≤ 2 * m := Nat.not_lt.mp fun hlt => hne (Nat.div_eq_of_lt hlt)
      have hdiv : 2 * m / 2 ^ f.mant = 1 := Nat.div_eq_of_lt_le (by omega) (by omega)
      have hmod := Nat.div_add_mod (2 * m) (2 ^ f.mant)
      rw [hdiv] at hmod ⊢
      omega
  · obtain ⟨k, hk⟩ : ∃ k, m / 2 ^ f.mant = k + 1 := Nat.exists_eq_succ_of_ne_zero h
    have hdiv : (m + 2 ^ f.mant) / 2 ^ f.mant = k + 2 := by rw [Nat.add_div_right _ hp, hk]
    rw [Fmt.double, if_neg h, Fmt.scaled, Fmt.scaled, if_neg h, hdiv, if_neg (by omega), Nat.add_mod_right, hk]
    simp only [Nat.add_sub_cancel, Nat.reduceSubDiff, Nat.pow_succ]
    ring

/-! ## Values and comparisons -/

/-- The value of a finite float, in units of `2^-149`. -/
def F32.val (x : F32) : Int := fmt32.toInt x.nat

theorem F32.isFinite_iff {x : F32} : x.isFinite = true ↔ fmt32.mag x.nat < fmt32.infMag := by
  simp [F32.isFinite, Fmt.finite_iff, F32.isNaN, F32.isInf]

/-- The order key and the value of a pattern have its sign, on the magnitude bits and on their value. -/
theorem Fmt.key_toInt_cases (f : Fmt) (a : Nat) :
    (f.key a = f.mag a ∧ f.toInt a = f.scaled (f.mag a)) ∨ (f.key a = -f.mag a ∧ f.toInt a = -f.scaled (f.mag a)) := by
  cases h : f.isNeg a with
  | false => exact .inl ⟨Fmt.key_of_pos h, Fmt.toInt_of_pos h⟩
  | true => exact .inr ⟨Fmt.key_of_neg h, Fmt.toInt_of_neg h⟩

theorem Fmt.mag_eq_natAbs_key (f : Fmt) (a : Nat) : f.mag a = (f.key a).natAbs := by
  rcases f.key_toInt_cases a with ⟨hkey, -⟩ | ⟨hkey, -⟩ <;> omega

theorem F32.natAbs_val (x : F32) : x.val.natAbs = fmt32.scaled (fmt32.mag x.nat) := by
  unfold F32.val
  rcases fmt32.key_toInt_cases x.nat with ⟨-, hval⟩ | ⟨-, hval⟩ <;> omega

/-- Finite patterns stand in the order of their values. -/
theorem Fmt.key_le_iff {f : Fmt} {a b : Nat} (ha : f.mag a < f.infMag) (hb : f.mag b < f.infMag) :
    f.key a ≤ f.key b ↔ f.toInt a ≤ f.toInt b := by
  have hab := f.scaled_le_iff _ _ (Nat.le_of_lt ha) (Nat.le_of_lt hb)
  have hba := f.scaled_le_iff _ _ (Nat.le_of_lt hb) (Nat.le_of_lt ha)
  have ha0 := f.scaled_le_iff _ _ (Nat.le_of_lt ha) (Nat.zero_le _)
  have hb0 := f.scaled_le_iff _ _ (Nat.le_of_lt hb) (Nat.zero_le _)
  rw [Fmt.scaled_zero] at ha0 hb0
  rcases f.key_toInt_cases a with ⟨hka, hva⟩ | ⟨hka, hva⟩ <;>
    rcases f.key_toInt_cases b with ⟨hkb, hvb⟩ | ⟨hkb, hvb⟩ <;>
    omega

theorem F32.le_iff_val {x y : F32} (hx : x.isFinite = true) (hy : y.isFinite = true) :
    x.le y = true ↔ x.val ≤ y.val := by
  rw [F32.isFinite_iff] at hx hy
  rw [F32.le, Fmt.le_iff, Fmt.key_le_iff hx hy]
  simp [(Fmt.finite_iff.mp hx).1, (Fmt.finite_iff.mp hy).1, F32.val]

theorem Fmt.lt_of_le_of_lt {f : Fmt} {a b c : Nat} (hab : f.le a b = true) (hbc : f.lt b c = true) :
    f.lt a c = true := by
  obtain ⟨ha, -, hab⟩ := Fmt.le_iff.mp hab
  obtain ⟨-, hc, hbc⟩ := Fmt.lt_iff.mp hbc
  exact Fmt.lt_iff.mpr ⟨ha, hc, Int.lt_of_le_of_lt hab hbc⟩

theorem F32.lt_of_le_of_lt {a b c : F32} (hab : a.le b = true) (hbc : b.lt c = true) : a.lt c = true :=
  Fmt.lt_of_le_of_lt hab hbc

theorem F32.not_lt_of_le {a b : F32} (h : a.le b = true) : b.lt a = false := by
  refine Bool.eq_false_iff.mpr fun hlt => ?_
  obtain ⟨-, -, hle⟩ := Fmt.le_iff.mp h
  obtain ⟨-, -, hlt⟩ := Fmt.lt_iff.mp hlt
  omega

/-! ## Signs -/

theorem F32.val_neg (x : F32) : x.neg.val = -x.val := by
  rw [F32.val, Machine.F32.nat_neg]
  exact Machine.F32.toInt_neg x

theorem F32.isFinite_neg (x : F32) : x.neg.isFinite = x.isFinite := by
  rw [Bool.eq_iff_iff, F32.isFinite_iff, F32.isFinite_iff, Machine.F32.nat_neg, (Machine.Fmt.neg32 x.nat x.bits.isLt).1]

theorem F32.nat_pack {m : Nat} (neg : Bool) (hm : m < fmt32.signBit) :
    (F32.ofPattern (fmt32.pack neg m)).nat = fmt32.pack neg m :=
  F32.nat_ofPattern _ (Fmt.pack_lt neg hm)

theorem Fmt.mag_lt_signBit (f : Fmt) (a : Nat) : f.mag a < f.signBit := Nat.mod_lt _ f.signBit_pos

theorem F32.abs_eq_pack (x : F32) : x.abs = F32.ofPattern (fmt32.pack false (fmt32.mag x.nat)) := by
  simp [F32.abs, Fmt.pack]

theorem F32.val_abs (x : F32) : x.abs.val = x.val.natAbs := by
  have hfit := fmt32.mag_lt_signBit x.nat
  rw [F32.abs_eq_pack, F32.natAbs_val, F32.val, F32.nat_pack _ hfit, Fmt.toInt_of_pos (Fmt.isNeg_pack _ hfit),
    Fmt.mag_pack _ hfit]

theorem F32.isFinite_abs (x : F32) : x.abs.isFinite = x.isFinite := by
  have hfit := fmt32.mag_lt_signBit x.nat
  rw [Bool.eq_iff_iff, F32.isFinite_iff, F32.isFinite_iff, F32.abs_eq_pack, F32.nat_pack _ hfit, Fmt.mag_pack _ hfit]

/-! ## Floats from 0 up to a magnitude -/

/-- `x` has no sign, and magnitude bits of at most `m`. -/
structure F32.UpTo (m : Nat) (x : F32) : Prop where
  pos : fmt32.isNeg x.nat = false
  le : fmt32.mag x.nat ≤ m

theorem F32.UpTo.isFinite {m : Nat} {x : F32} (hx : F32.UpTo m x) (hm : m < fmt32.infMag) : x.isFinite = true :=
  F32.isFinite_iff.mpr (Nat.lt_of_le_of_lt hx.le hm)

theorem F32.UpTo.val_eq {m : Nat} {x : F32} (hx : F32.UpTo m x) : x.val = fmt32.scaled (fmt32.mag x.nat) :=
  Fmt.toInt_of_pos hx.pos

theorem F32.UpTo.scaled_le {m : Nat} {x : F32} (hx : F32.UpTo m x) (hm : m < fmt32.infMag) :
    fmt32.scaled (fmt32.mag x.nat) ≤ fmt32.scaled m :=
  Fmt.scaled_mono hx.le (Nat.le_of_lt hm)

/-- A rounded magnitude without a sign passes no magnitude that what was rounded does not pass. -/
theorem F32.upTo_round {m num den : Nat} (hd : 0 < den) (h : num ≤ fmt32.scaled m * den) :
    F32.UpTo m (F32.ofPattern (fmt32.pack false (fmt32.roundMag num den))) := by
  have hfit := fmt32.roundMag_lt_signBit num den
  constructor
  · rw [F32.nat_pack _ hfit, Fmt.isNeg_pack _ hfit]
  · rw [F32.nat_pack _ hfit, Fmt.mag_pack _ hfit]
    exact fmt32.roundMag_le _ _ _ hd h

theorem F32.ofNat_eq_pack (n : Nat) :
    F32.ofNat n = F32.ofPattern (fmt32.pack false (fmt32.roundMag (n * 2 ^ fmt32.unit) 1)) := by
  simp only [F32.ofNat, Fmt.pack, Bool.false_eq_true, if_false]

theorem F32.upTo_ofNat {m n : Nat} (h : n * 2 ^ fmt32.unit ≤ fmt32.scaled m) : F32.UpTo m (F32.ofNat n) := by
  rw [F32.ofNat_eq_pack]
  exact F32.upTo_round Nat.one_pos (by rwa [Nat.mul_one])

/-- A product without signs is one rounding of the product of the values. -/
theorem F32.UpTo.mul_eq {a b : Nat} {x y : F32} (hx : F32.UpTo a x) (hy : F32.UpTo b y) (ha : a < fmt32.infMag)
    (hb : b < fmt32.infMag) : x.mul y = F32.ofPattern (fmt32.pack false
      (fmt32.roundMag (fmt32.scaled (fmt32.mag x.nat) * fmt32.scaled (fmt32.mag y.nat)) (2 ^ fmt32.unit))) := by
  rw [F32.mul, Fmt.mul_finite (F32.isFinite_iff.mp (hx.isFinite ha)) (F32.isFinite_iff.mp (hy.isFinite hb)), hx.pos,
    hy.pos, bne_self_eq_false]

theorem F32.UpTo.mul {a b m : Nat} {x y : F32} (hx : F32.UpTo a x) (hy : F32.UpTo b y) (ha : a < fmt32.infMag)
    (hb : b < fmt32.infMag) (hm : fmt32.scaled a * fmt32.scaled b ≤ fmt32.scaled m * 2 ^ fmt32.unit) :
    F32.UpTo m (x.mul y) := by
  rw [hx.mul_eq hy ha hb]
  exact F32.upTo_round (Nat.two_pow_pos _) (Nat.le_trans (Nat.mul_le_mul (hx.scaled_le ha) (hy.scaled_le hb)) hm)

/-- A product that is a value of the format is exact. -/
theorem F32.UpTo.mul_exact {a b m : Nat} {x y : F32} (hx : F32.UpTo a x) (hy : F32.UpTo b y) (ha : a < fmt32.infMag)
    (hb : b < fmt32.infMag) (hm : m < fmt32.infMag)
    (h : fmt32.scaled (fmt32.mag x.nat) * fmt32.scaled (fmt32.mag y.nat) = fmt32.scaled m * 2 ^ fmt32.unit) :
    F32.UpTo m (x.mul y) ∧ (x.mul y).val = fmt32.scaled m := by
  have hfit : m < fmt32.signBit := Nat.lt_trans hm fmt32.infMag_lt_signBit
  rw [hx.mul_eq hy ha hb, h, fmt32.roundMag_exact _ _ (Nat.two_pow_pos _) (Nat.le_of_lt hm)]
  refine ⟨⟨?_, ?_⟩, ?_⟩
  · rw [F32.nat_pack _ hfit, Fmt.isNeg_pack _ hfit]
  · rw [F32.nat_pack _ hfit, Fmt.mag_pack _ hfit]
  · rw [F32.val, F32.nat_pack _ hfit, Fmt.toInt_of_pos (Fmt.isNeg_pack _ hfit), Fmt.mag_pack _ hfit]

/-! ## Differences and remainders -/

theorem F32.nat_sub (x y : F32) : (x.sub y).nat = fmt32.add x.nat y.neg.nat := by
  rw [Machine.F32.nat_neg]
  refine F32.nat_ofPattern _ (Fmt.add_lt (f := fmt32) x.bits.isLt ?_ (by decide +kernel))
  rw [← Machine.F32.nat_neg]
  exact y.neg.bits.isLt

/-- A difference of finite floats is one rounding of the difference of their values. -/
theorem F32.key_sub {x y : F32} (hx : x.isFinite = true) (hy : y.isFinite = true) : fmt32.key (x.sub y).nat =
    fmt32.key (fmt32.pack (decide (x.val - y.val < 0)) (fmt32.roundMag (x.val - y.val).natAbs 1)) := by
  have hsum : fmt32.toInt x.nat + fmt32.toInt y.neg.nat = x.val - y.val := by
    have hneg : fmt32.toInt y.neg.nat = -y.val := F32.val_neg y
    rw [hneg]
    rfl
  rw [← F32.isFinite_neg] at hy
  rw [F32.nat_sub, Fmt.add_finite (F32.isFinite_iff.mp hx) (F32.isFinite_iff.mp hy), hsum]
  split
  · next h0 =>
    have hround : fmt32.roundMag 0 1 = 0 := Nat.le_zero.mp (fmt32.roundMag_le 0 1 0 Nat.one_pos (Nat.zero_le _))
    simp [h0, hround, Fmt.key, Fmt.mag_pack _ fmt32.signBit_pos]
  · rfl

theorem F32.mag_sub {x y : F32} (hx : x.isFinite = true) (hy : y.isFinite = true) :
    fmt32.mag (x.sub y).nat = fmt32.roundMag (x.val - y.val).natAbs 1 := by
  rw [Fmt.mag_eq_natAbs_key, F32.key_sub hx hy, ← Fmt.mag_eq_natAbs_key,
    Fmt.mag_pack _ (fmt32.roundMag_lt_signBit _ _)]

theorem F32.isNaN_sub {x y : F32} (hx : x.isFinite = true) (hy : y.isFinite = true) : (x.sub y).isNaN = false :=
  Fmt.isNaN_eq_false.mpr (F32.mag_sub hx hy ▸ fmt32.roundMag_le_infMag _ _)

/-- A remainder by a positive value does not exceed it. -/
theorem F32.fmod_bounded {x y : F32} (hx : x.isFinite = true) (hy : y.isFinite = true) (hpos : 0 < y.val) :
    (x.fmod y).isFinite = true ∧ ((x.fmod y).val.natAbs : Int) ≤ y.val := by
  have hyfin := F32.isFinite_iff.mp hy
  obtain ⟨hnx, hix⟩ := Fmt.finite_iff.mp (F32.isFinite_iff.mp hx)
  obtain ⟨hny, hiy⟩ := Fmt.finite_iff.mp hyfin
  have hyval := F32.natAbs_val y
  have hzero : fmt32.isZero y.nat = false := by
    refine decide_eq_false fun h0 => ?_
    rw [h0, Fmt.scaled_zero] at hyval
    omega
  have hmag : fmt32.mag (x.fmod y).nat ≤ fmt32.mag y.nat := by
    have hfit := fmt32.roundMag_lt_signBit (fmt32.scaled (fmt32.mag x.nat) % fmt32.scaled (fmt32.mag y.nat)) 1
    have hmod := Nat.mod_lt (fmt32.scaled (fmt32.mag x.nat)) (show fmt32.scaled (fmt32.mag y.nat) > 0 by omega)
    simp only [F32.fmod, Fmt.fmod, hnx, hix, hny, hiy, hzero, Bool.or_self, Bool.false_eq_true, if_false]
    rw [F32.nat_pack _ hfit, Fmt.mag_pack _ hfit]
    exact fmt32.roundMag_le _ _ _ Nat.one_pos (by omega)
  refine ⟨F32.isFinite_iff.mpr (Nat.lt_of_le_of_lt hmag hyfin), ?_⟩
  have hscaled := Fmt.scaled_mono hmag (Nat.le_of_lt hyfin)
  rw [F32.natAbs_val]
  omega

end Sys2Proof

namespace Sys2Proof.Machine

set_option Elab.async false

/-! ## Ranges -/

/-- A range with finite ends holds the finite floats whose values lie between theirs. -/
theorem F32.within_iff_val {lo hi x : F32} (hlo : lo.isFinite = true) (hhi : hi.isFinite = true) :
    F32.within lo hi x = true ↔ x.isFinite = true ∧ lo.val ≤ x.val ∧ x.val ≤ hi.val := by
  rw [F32.within_iff]
  constructor
  · rintro ⟨hl, hh⟩
    have hx : x.isFinite = true := by
      obtain ⟨-, -, hkl⟩ := Fmt.le_iff.mp hl
      obtain ⟨-, -, hkh⟩ := Fmt.le_iff.mp hh
      rw [F32.isFinite_iff, Fmt.mag_eq_natAbs_key] at hlo hhi ⊢
      omega
    exact ⟨hx, (F32.le_iff_val hlo hx).mp hl, (F32.le_iff_val hx hhi).mp hh⟩
  · rintro ⟨hx, hl, hh⟩
    exact ⟨(F32.le_iff_val hlo hx).mpr hl, (F32.le_iff_val hx hhi).mpr hh⟩

/-- The range [-z, z] of a finite `z`. -/
theorem F32.within_neg_iff {x z : F32} (hz : z.isFinite = true) :
    F32.within z.neg z x = true ↔ x.isFinite = true ∧ (x.val.natAbs : Int) ≤ z.val := by
  rw [F32.within_iff_val ((F32.isFinite_neg z).trans hz) hz, F32.val_neg]
  exact and_congr_right fun _ => by omega

/-- A rounded difference lies between two floats if the exact one does. -/
theorem F32.sub_within {lo hi x y : F32} (hlo : lo.isFinite = true) (hhi : hi.isFinite = true)
    (hx : x.isFinite = true) (hy : y.isFinite = true) (hl : lo.val ≤ x.val - y.val) (hh : x.val - y.val ≤ hi.val) :
    F32.within lo hi (x.sub y) = true := by
  have hnan := F32.isNaN_sub hx hy
  rw [F32.isFinite_iff] at hlo hhi
  refine F32.within_iff.mpr ⟨Fmt.le_iff.mpr ⟨(Fmt.finite_iff.mp hlo).1, hnan, ?_⟩,
    Fmt.le_iff.mpr ⟨hnan, (Fmt.finite_iff.mp hhi).1, ?_⟩⟩
  · rw [F32.key_sub hx hy]
    exact Fmt.key_le_round hlo hl
  · rw [F32.key_sub hx hy]
    exact Fmt.key_round_le hhi hh

end Sys2Proof.Machine
end

section
/-! SUPPORT. Ranges of the saturators and the noise (R152, R160, R163): the clamp ends in its range; a fold and a noise
sample are rounded differences, and the exact ones are in range. -/

namespace Sys2Proof.Machine

set_option Elab.async false

/-! ## `clamp2` (R163) -/

theorem two_neg : F32.two.neg = ⟨0xC0000000#32⟩ := by decide +kernel

/-- No value is below -2 and above 2. -/
theorem not_gt_two_of_lt {x : F32} (h : x.lt F32.two.neg = true) : x.gt F32.two = false :=
  F32.not_lt_of_le (F32.le_trans (F32.le_of_lt h) (by decide +kernel))

theorem clamp2_of_isNaN {x : F32} (h : x.isNaN = true) : clamp2 x = F32.zero := by
  simp [clamp2, h]

/-- Of a value that is not a NaN `clamp2` is the clamp of R331 to [-2, 2]. -/
theorem clamp2_eq_clampTo {x : F32} (h : x.isNaN = false) : clamp2 x = clampTo F32.two.neg F32.two x := by
  have hends : F32.two.neg.gt F32.two = false := by decide +kernel
  cases hlow : x.lt F32.two.neg with
  | false => simp [clamp2, clampTo, h, hlow]
  | true => simp [clamp2, clampTo, h, hlow, not_gt_two_of_lt hlow, hends]

theorem clamp2_safe (x : F32) : sampleSafe (clamp2 x) = true := by
  cases h : x.isNaN with
  | true => rw [clamp2_of_isNaN h]; decide +kernel
  | false => rw [clamp2_eq_clampTo h]; exact clampTo_within (by decide +kernel) h

theorem clamp2_of_gt {x : F32} (h : x.gt F32.two = true) : clamp2 x = F32.two := by
  have hnan : x.isNaN = false := (Fmt.lt_iff.mp h).2.1
  simp [clamp2, hnan, h]

theorem clamp2_of_lt {x : F32} (h : x.lt F32.two.neg = true) : clamp2 x = F32.two.neg := by
  have hnan : x.isNaN = false := (Fmt.lt_iff.mp h).1
  simp [clamp2, hnan, h, not_gt_two_of_lt h]

theorem clamp2_of_safe {x : F32} (h : sampleSafe x = true) : clamp2 x = x := by
  obtain ⟨hlow, hhigh⟩ := F32.within_iff.mp h
  simp [clamp2, F32.not_nan_of_le_left hhigh, F32.gt, F32.not_lt_of_le hhigh, F32.not_lt_of_le hlow]

/-! ## `foldback` (R160) -/

/-- The magnitude bits of 4.0, the greatest threshold of R40. -/
def fourMag : Nat := 0x40800000

theorem fourMag_lt_infMag : fourMag < fmt32.infMag := by decide +kernel

/-- The magnitude bits of the greatest finite value. -/
def maxMag : Nat := 0x7F7FFFFF

/-- A value up to 4 past the greatest finite one does not reach the next rounding step. -/
theorem roundMag_lt_infMag {n : Nat} (h : n ≤ fmt32.scaled maxMag + fmt32.scaled fourMag) :
    fmt32.roundMag n 1 < fmt32.infMag := by
  have hmax : fmt32.scaled maxMag = (2 ^ 24 - 1) * 2 ^ 253 := by decide +kernel
  have hfour : fmt32.scaled fourMag = 2 ^ 151 := by decide +kernel
  rcases Nat.le_total n (fmt32.scaled maxMag) with hle | hge
  · exact Nat.lt_of_le_of_lt (fmt32.roundMag_le n 1 maxMag Nat.one_pos (by rwa [Nat.mul_one])) (by decide +kernel)
  · rw [hmax] at h hge
    rw [hfour] at h
    have hlog : Nat.log2 n = 276 := (Nat.log2_eq_iff (by omega)).mpr ⟨by omega, by omega⟩
    have hshift : fmt32.shift n 1 = 253 := by rw [Fmt.shift, Nat.div_one, hlog]; rfl
    have hround : roundDiv n (1 * 2 ^ 253) ≤ 2 ^ 24 - 1 := roundDiv_le_of_lt_half (by decide) (by omega)
    rw [Fmt.roundMag, hshift]
    exact Nat.lt_of_le_of_lt (Nat.min_le_left _ _)
      (Nat.lt_of_le_of_lt (Nat.add_le_add_left hround _) (by decide +kernel))

/-- No finite value overflows on subtracting at most 4. -/
theorem F32.isFinite_sub {x t : F32} (hx : x.isFinite = true) (ht : F32.UpTo fourMag t) :
    (x.sub t).isFinite = true := by
  have hxval : fmt32.scaled (fmt32.mag x.nat) ≤ fmt32.scaled maxMag := by
    have hmax : maxMag + 1 = fmt32.infMag := by decide +kernel
    have hxfin := F32.isFinite_iff.mp hx
    exact Fmt.scaled_mono (by omega) (by omega)
  have htval := ht.scaled_le fourMag_lt_infMag
  rw [← F32.natAbs_val] at hxval htval
  rw [F32.isFinite_iff, F32.mag_sub hx (ht.isFinite fourMag_lt_infMag)]
  exact roundMag_lt_infMag (by omega)

/-- Twice a threshold is exact. -/
theorem two_mul_threshold {t : F32} (ht : F32.UpTo fourMag t) :
    (F32.two.mul t).isFinite = true ∧ (F32.two.mul t).val = 2 * t.val := by
  have htwo : fmt32.isNeg F32.two.nat = false ∧ fmt32.mag F32.two.nat < fmt32.infMag ∧
      fmt32.scaled (fmt32.mag F32.two.nat) = 2 * 2 ^ fmt32.unit := by decide +kernel
  obtain ⟨hpos, hfin, hval⟩ := htwo
  have hfit : fmt32.double (fmt32.mag t.nat) < fmt32.infMag :=
    Nat.lt_of_le_of_lt (Nat.le_trans (fmt32.double_le _) (Nat.add_le_add_right ht.le _)) (by decide +kernel)
  obtain ⟨hup, hprod⟩ := F32.UpTo.mul_exact (x := F32.two) ⟨hpos, Nat.le_refl _⟩ ht hfin fourMag_lt_infMag hfit
    (by rw [hval, fmt32.scaled_double]; ring)
  refine ⟨hup.isFinite hfit, ?_⟩
  rw [hprod, fmt32.scaled_double, ht.val_eq]
  rfl

/-- Four times a threshold is exact. -/
theorem four_mul_threshold {t : F32} (ht : F32.UpTo fourMag t) :
    ((F32.ofNat 4).mul t).isFinite = true ∧ ((F32.ofNat 4).mul t).val = 4 * t.val := by
  have hfour : fmt32.isNeg (F32.ofNat 4).nat = false ∧ fmt32.mag (F32.ofNat 4).nat < fmt32.infMag ∧
      fmt32.scaled (fmt32.mag (F32.ofNat 4).nat) = 4 * 2 ^ fmt32.unit := by decide +kernel
  obtain ⟨hpos, hfin, hval⟩ := hfour
  have hfit : fmt32.double (fmt32.double (fmt32.mag t.nat)) < fmt32.infMag := by
    have hinf : fourMag + 2 ^ fmt32.mant + 2 ^ fmt32.mant < fmt32.infMag := by decide +kernel
    have hone := fmt32.double_le (fmt32.mag t.nat)
    have htwo := fmt32.double_le (fmt32.double (fmt32.mag t.nat))
    have hle := ht.le
    omega
  obtain ⟨hup, hprod⟩ := F32.UpTo.mul_exact (x := F32.ofNat 4) ⟨hpos, Nat.le_refl _⟩ ht hfin fourMag_lt_infMag
    hfit (by rw [hval, fmt32.scaled_double, fmt32.scaled_double]; ring)
  refine ⟨hup.isFinite hfit, ?_⟩
  rw [hprod, fmt32.scaled_double, fmt32.scaled_double, ht.val_eq]
  omega

/-- Half a fold: from [-2z, 2z] to [-z, z]. -/
theorem F32.abs_sub_within {y z : F32} (hy : y.isFinite = true) (hz : z.isFinite = true)
    (h : (y.val.natAbs : Int) ≤ 2 * z.val) : F32.within z.neg z (y.abs.sub z) = true := by
  refine F32.sub_within ((F32.isFinite_neg z).trans hz) hz ((F32.isFinite_abs y).trans hy) hz ?_ ?_
  · rw [F32.val_neg, F32.val_abs]; omega
  · rw [F32.val_abs]; omega

theorem foldback_of_within {x t : F32} (hpos : F32.zero.lt t = true) (h : F32.within t.neg t x = true) :
    foldback x t = x := by
  obtain ⟨hlow, hhigh⟩ := F32.within_iff.mp h
  simp [foldback, F32.gt, F32.ge, hpos, hlow, hhigh]

theorem foldback_of_not_within {x t : F32} (hpos : F32.zero.lt t = true) (h : F32.within t.neg t x = false) :
    foldback x t = ((((x.sub t).fmod ((F32.ofNat 4).mul t)).abs.sub (F32.two.mul t)).abs).sub t := by
  have hout : (x.le t && x.ge t.neg) = false := by rwa [Bool.and_comm]
  simp [foldback, F32.gt, hpos, hout]

/-- A threshold in (0, 4] has no sign and a positive value. -/
theorem threshold_upTo {t : F32} (hpos : F32.zero.lt t = true) (hle : t.le (F32.ofNat 4) = true) :
    F32.UpTo fourMag t ∧ 0 < t.val := by
  have hends : fmt32.key F32.zero.nat = 0 ∧ fmt32.key (F32.ofNat 4).nat = (fourMag : Int) := by decide +kernel
  have hzero : F32.zero.isFinite = true ∧ F32.zero.val = 0 := by decide +kernel
  obtain ⟨-, -, hlt⟩ := Fmt.lt_iff.mp hpos
  obtain ⟨-, -, hkey⟩ := Fmt.le_iff.mp hle
  rw [hends.1] at hlt
  rw [hends.2] at hkey
  have hsign : fmt32.isNeg t.nat = false := by
    refine Bool.eq_false_iff.mpr fun hneg => ?_
    rw [Fmt.key_of_neg hneg] at hlt
    omega
  rw [Fmt.key_of_pos hsign] at hkey
  have hup : F32.UpTo fourMag t := ⟨hsign, by omega⟩
  refine ⟨hup, Int.not_le.mp fun hval => ?_⟩
  have hback := (F32.le_iff_val (hup.isFinite fourMag_lt_infMag) hzero.1).mpr (hzero.2 ▸ hval)
  exact Bool.false_ne_true ((F32.not_lt_of_le hback).symm.trans hpos)

/-- The remainder is in [-4t, 4t]; each half of the fold halves the range. -/
theorem foldback_within {x t : F32} (hx : x.isFinite = true) (hpos : F32.zero.lt t = true)
    (hle : t.le (F32.ofNat 4) = true) : F32.within t.neg t (foldback x t) = true := by
  cases hin : F32.within t.neg t x with
  | true => rwa [foldback_of_within hpos hin]
  | false =>
    obtain ⟨ht, htval⟩ := threshold_upTo hpos hle
    have htfin := ht.isFinite fourMag_lt_infMag
    obtain ⟨h2fin, h2val⟩ := two_mul_threshold ht
    obtain ⟨h4fin, h4val⟩ := four_mul_threshold ht
    obtain ⟨hrfin, hrval⟩ := F32.fmod_bounded (F32.isFinite_sub hx ht) h4fin (by omega)
    have hhalf := F32.abs_sub_within hrfin h2fin (by omega)
    obtain ⟨hhfin, hhval⟩ := (F32.within_neg_iff h2fin).mp hhalf
    rw [foldback_of_not_within hpos hin]
    exact F32.abs_sub_within hhfin htfin (by omega)

/-- Settles O57: `clamp2` by where its operand lies, `foldback` by its two halves. -/
theorem clampAndFoldStayInRange : Obligations.ClampAndFoldStayInRange := by
  refine ⟨fun x => ⟨clamp2_safe x, clamp2_of_isNaN, clamp2_of_gt, fun h => ?_, clamp2_of_safe⟩,
    fun x t hx hpos hle => ⟨foldback_within hx hpos hle, foldback_of_within hpos⟩⟩
  rw [← two_neg] at h ⊢
  exact clamp2_of_lt h

/-! ## Noise (R152) -/

/-- The magnitude bits of `2^24 - 1`, the greatest value of a state's top 24 bits. -/
def noiseTopMag : Nat := 0x4B7FFFFF

/-- The magnitude bits of `2 - 2^-23`, the greatest scaled value. -/
def noiseScaledMag : Nat := 0x3FFFFFFF

/-- The top 24 bits of a noise state, scaled to [0, 2 - 2^-23]. -/
theorem noiseScaled_upTo (s : BitVec 32) :
    F32.UpTo noiseScaledMag ((F32.ofNat (s >>> 8).toNat).mul ⟨0x34000000#32⟩) := by
  have htop : (s >>> 8).toNat ≤ 2 ^ 24 - 1 := by
    have := s.isLt
    rw [BitVec.toNat_ushiftRight, Nat.shiftRight_eq_div_pow]
    omega
  have hofNat : F32.UpTo noiseTopMag (F32.ofNat (s >>> 8).toNat) :=
    F32.upTo_ofNat (Nat.le_trans (Nat.mul_le_mul_right _ htop) (by decide +kernel))
  have hscale : F32.UpTo 0x34000000 ⟨0x34000000#32⟩ := ⟨by decide +kernel, by decide +kernel⟩
  exact hofNat.mul hscale (by decide +kernel) (by decide +kernel) (by decide +kernel)

/-- Less 1 the scaled value is in [-1, 1 - 2^-23]. -/
theorem noiseFloat_within (s : BitVec 32) : F32.within ⟨0xBF800000#32⟩ ⟨0x3F7FFFFE#32⟩ (noiseFloat s) = true := by
  have hscaled := noiseScaled_upTo s
  have hmag : noiseScaledMag < fmt32.infMag := by decide +kernel
  have hle := hscaled.scaled_le hmag
  have hone : F32.one.isFinite = true ∧ (⟨0xBF800000#32⟩ : F32).val = -F32.one.val ∧
      (fmt32.scaled noiseScaledMag : Int) - F32.one.val = (⟨0x3F7FFFFE#32⟩ : F32).val := by decide +kernel
  obtain ⟨honefin, hlow, hhigh⟩ := hone
  refine F32.sub_within (by decide +kernel) (by decide +kernel) (hscaled.isFinite hmag) honefin ?_ ?_
  · rw [hscaled.val_eq]; omega
  · rw [hscaled.val_eq]; omega

/-- Settles O58: the greatest sample is `1 - 2^-23`. -/
theorem noiseSamplesInRange : Obligations.NoiseSamplesInRange := fun s => by
  obtain ⟨hlow, hhigh⟩ := F32.within_iff.mp (noiseFloat_within s)
  exact ⟨hlow, F32.lt_of_le_of_lt hhigh (by decide +kernel)⟩

end Sys2Proof.Machine
end

section
/-! SUPPORT. Voices: what one sample does to the activity and the noise state of a voice that sounds, and what a kick's
trigger leaves (R191, R192, R209 to R212, R230 to R237). -/

namespace Sys2Proof.Machine

set_option Elab.async false

/-! ## A kick's trigger (R153, R191) -/

/-- Settles O52: the noise state is `Rng.ofSeed` of the stepped seed, the rest is the trigger's own record. -/
theorem kickTriggerKeepsFilters : Obligations.KickTriggerKeepsFilters :=
  fun c _ _ k => ⟨lcgStep c k.seed, rfl, rfl⟩

section
variable (c : Cfg) (p : Nat → F32) (sr : F32)

/-! ## One sample of a voice, sounding or not (R192, R210, R230) -/

theorem Kick.process_of_inactive {k : Kick} (h : k.active = false) : k.process c p sr = (F32.zero, k) := by
  simp [Kick.process, h]

theorem Kick.process_of_active {k : Kick} (h : k.active = true) : k.process c p sr = k.sample c p sr := by
  simp [Kick.process, h]

theorem Snare.process_of_active {sn : Snare} (h : sn.active = true) : sn.process c p sr = sn.sample c p sr := by
  simp [Snare.process, h]

theorem Hat.process_of_active {ht : Hat} (h : ht.active = true) : ht.process c p sr = ht.sample c p sr := by
  simp [Hat.process, h]

/-! ## Noise draws (R151, R197, R198, R212) -/

/-- R198: a waveform steps the noise state once if it is noise, and otherwise leaves it. -/
theorem wave_draws (kind : OscType) (ph : F32) (r : Rng) :
    (wave c kind ph r).2.s = (xorshift32 c)^[if kind = .noise then 1 else 0] r.s := by
  cases kind with
  | noise => rfl
  | sine => rfl
  | triangle => rfl
  | square => rfl

/-- R210: the noise state goes through the click, then layer 1, then layer 2, each layer with its own waveform. -/
theorem Kick.sample_rng_waves (k : Kick) : ∃ ph1 ph2, (k.sample c p sr).2.rng =
    (wave c (selOscType (p Param.L2_WAVE)) ph2
      (wave c (selOscType (p Param.L1_WAVE)) ph1 (white c k.rng).2).2).2 := ⟨_, _, rfl⟩

theorem Kick.sample_draws (k : Kick) : (k.sample c p sr).2.rng.s =
    (xorshift32 c)^[1 + (if selOscType (p Param.L1_WAVE) = .noise then 1 else 0) +
      (if selOscType (p Param.L2_WAVE) = .noise then 1 else 0)] k.rng.s := by
  obtain ⟨ph1, ph2, hrng⟩ := k.sample_rng_waves c p sr
  have hclick : (white c k.rng).2.s = (xorshift32 c)^[1] k.rng.s := rfl
  rw [hrng, wave_draws, wave_draws, hclick, ← Function.iterate_add_apply, ← Function.iterate_add_apply]
  congr 1
  omega

/-! ## Activity after a sample (R132, R209, R232, R237) -/

theorem Kick.governed_iff (k : Kick) : k.governed = true ↔
    k.envAmp.value.gt Config.envEps = true ∨ k.envL.j0.state ≠ .off ∨ k.envL.j1.state ≠ .off := by
  simp [Kick.governed, DecayEnv.isActive, ADEnv.isActive, or_assoc]

/-- R209: the test is made on the envelopes as the sample leaves them. -/
theorem Kick.sample_active (k : Kick) : (k.sample c p sr).2.active = (k.sample c p sr).2.governed := rfl

theorem Snare.sample_active (sn : Snare) :
    (sn.sample c p sr).2.active = (sn.envAmp.next (p Param.S_AMP_DECAY)).2.isActive := rfl

theorem Hat.sample_active (ht : Hat) :
    (ht.sample c p sr).2.active = (ht.envAmp.next (p Param.H_DECAY)).2.isActive := by
  obtain ⟨_, _, he⟩ := Hat.refresh_frame p sr ht
  simp only [Hat.sample, he]

theorem DecayEnv.isActive_next_iff (e : DecayEnv) (coef : F32) :
    (e.next coef).2.isActive = true ↔ (e.value.mul coef).gt Config.envEps = true := Iff.rfl

theorem Kick.active_sample_iff (k : Kick) : (k.sample c p sr).2.active = true ↔
    (k.envAmp.value.mul (p Param.K_AMP_DECAY)).gt Config.envEps = true ∨
      (k.sample c p sr).2.envL.j0.state ≠ .off ∨ (k.sample c p sr).2.envL.j1.state ≠ .off := by
  rw [Kick.sample_active, Kick.governed_iff, Kick.sample_envAmp]
  exact Iff.rfl

end

/-- Settles O53: the click and the two layers each step the noise state as `wave_draws` says. -/
theorem kickNoiseDraws : Obligations.KickNoiseDraws := fun c p sr k => by
  refine ⟨k.process_of_inactive c p sr, fun hactive => ?_⟩
  rw [Kick.process_of_active c p sr hactive]
  exact k.sample_draws c p sr

/-- Settles O54: an active voice is sampled, and ends with its activity test on the envelopes after the sample. -/
theorem voicesEndWithTheirEnvelopes : Obligations.VoicesEndWithTheirEnvelopes := fun c p sr k sn ht => by
  refine ⟨fun hk => ?_, fun hsn => ?_, fun hht => ?_⟩
  · rw [Kick.process_of_active c p sr hk]
    exact k.active_sample_iff c p sr
  · rw [Snare.process_of_active c p sr hsn, Snare.sample_active]
    exact sn.envAmp.isActive_next_iff _
  · rw [Hat.process_of_active c p sr hht, Hat.sample_active]
    exact ht.envAmp.isActive_next_iff _

end Sys2Proof.Machine
end

section
/-! SUPPORT. The hat's coefficient cache: what writes it, and the rate it belongs to (R52, R237, R241). -/

namespace Sys2Proof.Machine

set_option Elab.async false

/-! ## The cache of one hat (R236, R237) -/

/-- R241: at the rate `sr` the cached coefficient belongs to the cached cutoff, or the cutoff is a NaN. -/
def Hat.CacheSound (sr : F32) (ht : Hat) : Prop := ht.cutHz.isNaN = true ∨ ht.coef = lpCoef ht.cutHz sr

theorem hatCacheSound_iff {s : State} : HatCacheSound s ↔ s.ht.CacheSound s.g.sr := Iff.rfl

section
variable {sr : F32} {ht : Hat}

/-- R236: a trigger touches neither cutoff nor coefficient. -/
theorem Hat.cacheSound_trigger (v : F32) (h : ht.CacheSound sr) : (ht.trigger v).CacheSound sr := h

/-- R237: a refresh writes cutoff and coefficient together, or neither. -/
theorem Hat.cacheSound_refresh (p : Nat → F32) (h : ht.CacheSound sr) : (ht.refresh p sr).CacheSound sr := by
  unfold Hat.refresh
  split
  · exact .inr rfl
  · exact h

/-- R237: after its refresh a sample leaves the cache alone. -/
theorem Hat.cacheSound_sample_iff (c : Cfg) (p : Nat → F32) :
    (ht.sample c p sr).2.CacheSound sr ↔ (ht.refresh p sr).CacheSound sr := Iff.rfl

theorem Hat.cacheSound_process (c : Cfg) (p : Nat → F32) (h : ht.CacheSound sr) :
    (ht.process c p sr).2.CacheSound sr := by
  rcases ht.process_cases c p sr with he | he <;> rw [he]
  · exact h
  · exact (Hat.cacheSound_sample_iff c p).mpr (Hat.cacheSound_refresh p h)

end

/-! ## The cache in the machine (R21, R241, R350, R400) -/

theorem hatCacheSound_congr {s t : State} (hs : HatCacheSound s) (hht : t.ht = s.ht) (hsr : t.g.sr = s.g.sr) :
    HatCacheSound t := by
  rwa [hatCacheSound_iff, hht, hsr]

theorem hatCacheSound_triggerStep {s : State} (st : Nat) (hs : HatCacheSound s) :
    HatCacheSound (triggerStep st s) := by
  rw [hatCacheSound_iff, triggerStep_g]
  rcases triggerStep_ht st s with he | he <;> rw [he]
  · exact hs
  · exact Hat.cacheSound_trigger _ hs

theorem hatCacheSound_soundStep {s : State} (hs : HatCacheSound s) : HatCacheSound (soundStep s).2 :=
  Hat.cacheSound_process s.cfg s.par hs

/-- A tick keeps `G.sr`, so the cache may be followed at the rate before it. -/
theorem hatCacheSound_tick {s : State} (hs : HatCacheSound s) : HatCacheSound (tick s).2 := by
  rw [hatCacheSound_iff, tick_g]
  refine tick_keeps_sound (P := fun u => u.ht.CacheSound s.g.sr) (fun u v hu h => h.ht ▸ hu)
    (hatCacheSound_triggerStep _ hs) (fun hu => ?_) hs
  have hsr : (transportStep s).g.sr = s.g.sr := by rw [transportStep_g]
  rw [← hsr] at hu ⊢
  exact hatCacheSound_soundStep hu

theorem snapStep_sr (r : Render) (s : State) : (snapStep r s).g.sr = s.g.sr := by
  obtain ⟨_, _, _, he⟩ := snapStep_frame r s
  rw [he]

theorem tickStep_sr (r : Render) (s : State) : (tickStep r s).g.sr = s.g.sr := by
  obtain ⟨_, _, _, he⟩ := tickStep_frame r s
  rw [he]

/-- Of the engine's micro-steps a tick alone touches the hat, and none the rate. -/
theorem advance_keeps_hatCacheSound {s t : State} (hs : HatCacheSound s) (h : Advance s t) : HatCacheSound t := by
  cases h with
  | snapped r hr hp => exact hatCacheSound_congr hs (snapStep_ht r s) (snapStep_sr r s)
  | ticked r hr hp =>
    have hsr : (tickStep r s).g.sr = (tick s).2.g.sr := by rw [tickStep_sr, tick_g]
    exact hatCacheSound_congr (hatCacheSound_tick hs) (tickStep_ht r s) hsr
  | _ => exact hatCacheSound_congr hs (by simp) (by simp)

/-- R400, R401: `PREPARE` and `RESET` empty the cache, `PREPARE` as it sets the rate; no other word touches either. -/
theorem taken_keeps_hatCacheSound {x : Presented} {s t : State} (hs : HatCacheSound s) (h : Taken x s t) :
    HatCacheSound t := by
  cases h with
  | prepared sr mb hx hd hsr => exact hatCacheSound_of_reset rfl
  | rewound hx hd => exact hatCacheSound_of_reset rfl
  | _ => exact hatCacheSound_congr hs (by simp) (by simp)

/-- Settles O41: cutoff and coefficient are written together at the rate in force, and the one word that changes the
rate gives the hat its reset columns, where the cutoff is a NaN. -/
theorem stepKeepsHatCacheSound : Obligations.StepKeepsHatCacheSound := fun _ _ =>
  step_keeps (fun _ _ hs => hs) (fun _ _ => advance_keeps_hatCacheSound) (fun _ _ _ => taken_keeps_hatCacheSound)

end Sys2Proof.Machine
end

section
/-! SUPPORT. Bypassed FX stages (R250, R251): what one stage alone writes stays as it was while its control is
neutral. -/

namespace Sys2Proof.Machine

set_option Elab.async false

/-- R251: a stage with a neutral control does not run, so it may be one that breaks the property. -/
theorem bypassIf_keeps_of_neutral_or {P : FX → Prop} {neutral : Bool} {stage : LR F32 → FX → LR F32 × FX}
    {r : LR F32 × FX} (hstage : neutral = true ∨ ∀ x f, P f → P (stage x f).2) (hr : P r.2) :
    P (bypassIf neutral stage r).2 := by
  rcases hstage with rfl | hkeeps
  · exact hr
  · exact bypassIf_keeps hkeeps hr

/-- R250, R251: a property of `FX` that each stage with memory keeps, unless its control is neutral, is kept by the
chain. -/
theorem FX.process_keeps_of_neutral_or {P : FX → Prop} {c : Cfg} {p : Nat → F32} {sr k : F32} {fx : FX}
    (hshifter : (p 58).feq ⟨0#32⟩ = true ∨ ∀ x f, P f → P (f.shifter c p sr x).2)
    (hdiffuser : (p 60).feq ⟨0#32⟩ = true ∨ ∀ x f, P f → P (f.diffuser c p x).2)
    (hott : (p 63).feq ⟨0#32⟩ = true ∨ ∀ x f, P f → P (f.ott c p sr x).2)
    (htransient : (p 64).feq ⟨0#32⟩ = true ∨ ∀ x f, P f → P (f.transient p x).2)
    (htone : (p 67).ge c.fxToneBypassHz = true ∨ ∀ x f, P f → P (f.toneFilter p sr x).2) (h : P fx) :
    P (fx.process c p sr k).2 := by
  unfold FX.process
  split
  · exact h
  · exact bypassIf_keeps_of_neutral_or htone <| bypassIf_keeps_of_neutral_or htransient <|
      bypassIf_keeps_of_neutral_or hott <| bypassIf_keeps (fun _ _ hf => hf) <|
      bypassIf_keeps_of_neutral_or hdiffuser <| bypassIf_keeps (fun _ _ hf => hf) <|
      bypassIf_keeps_of_neutral_or hshifter h

/-- R250: at `FX_MIX = 0` the whole chain is bypassed. -/
theorem FX.process_of_mix_zero {c : Cfg} {p : Nat → F32} {sr k : F32} {fx : FX} (h : (p 68).feq ⟨0#32⟩ = true) :
    fx.process c p sr k = (⟨k, k⟩, fx) :=
  if_pos h

section
variable {c : Cfg} {p : Nat → F32} {sr k : F32} {fx : FX}

theorem FX.process_shifter_frozen (h : (p 58).feq ⟨0#32⟩ = true) : (fx.process c p sr k).2.hil = fx.hil ∧
    (fx.process c p sr k).2.hilD = fx.hilD ∧ (fx.process c p sr k).2.shOsc = fx.shOsc :=
  FX.process_keeps_of_neutral_or (P := fun f => f.hil = fx.hil ∧ f.hilD = fx.hilD ∧ f.shOsc = fx.shOsc) (.inl h)
    (.inr fun _ _ hf => hf) (.inr fun _ _ hf => hf) (.inr fun _ _ hf => hf) (.inr fun _ _ hf => hf) ⟨rfl, rfl, rfl⟩

theorem FX.process_diffuser_frozen (h : (p 60).feq ⟨0#32⟩ = true) : (fx.process c p sr k).2.dif = fx.dif :=
  FX.process_keeps_of_neutral_or (P := fun f => f.dif = fx.dif) (.inr fun _ _ hf => hf) (.inl h)
    (.inr fun _ _ hf => hf) (.inr fun _ _ hf => hf) (.inr fun _ _ hf => hf) rfl

theorem FX.process_ott_frozen (h : (p 63).feq ⟨0#32⟩ = true) : (fx.process c p sr k).2.ottLo = fx.ottLo ∧
    (fx.process c p sr k).2.ottHi = fx.ottHi ∧ (fx.process c p sr k).2.ottEnv = fx.ottEnv :=
  FX.process_keeps_of_neutral_or (P := fun f => f.ottLo = fx.ottLo ∧ f.ottHi = fx.ottHi ∧ f.ottEnv = fx.ottEnv)
    (.inr fun _ _ hf => hf) (.inr fun _ _ hf => hf) (.inl h) (.inr fun _ _ hf => hf) (.inr fun _ _ hf => hf)
    ⟨rfl, rfl, rfl⟩

theorem FX.process_transient_frozen (h : (p 64).feq ⟨0#32⟩ = true) : (fx.process c p sr k).2.trEnv = fx.trEnv :=
  FX.process_keeps_of_neutral_or (P := fun f => f.trEnv = fx.trEnv) (.inr fun _ _ hf => hf) (.inr fun _ _ hf => hf)
    (.inr fun _ _ hf => hf) (.inl h) (.inr fun _ _ hf => hf) rfl

theorem FX.process_tone_frozen (h : (p 67).ge c.fxToneBypassHz = true) : (fx.process c p sr k).2.tone = fx.tone :=
  FX.process_keeps_of_neutral_or (P := fun f => f.tone = fx.tone) (.inr fun _ _ hf => hf) (.inr fun _ _ hf => hf)
    (.inr fun _ _ hf => hf) (.inr fun _ _ hf => hf) (.inl h) rfl

end

/-- Settles O55: each record of `FX` is written by one stage alone, which a neutral control keeps from running. -/
theorem bypassedStagesAreFrozen : Obligations.BypassedStagesAreFrozen := fun _ _ _ _ _ =>
  ⟨FX.process_of_mix_zero, FX.process_shifter_frozen, FX.process_diffuser_frozen, FX.process_ott_frozen,
    FX.process_transient_frozen, FX.process_tone_frozen⟩

end Sys2Proof.Machine
end

section
/-! SUPPORT. The widener on equal channels (R256, R266): doubling and halving are exact, the difference is a zero, and
adding a zero of either sign changes no other value. -/

namespace Sys2Proof

set_option Elab.async false

/-! ## A float from its sign and magnitude, and from its value -/

theorem Fmt.pack_isNeg_mag {f : Fmt} {a : Nat} (h : a < 2 * f.signBit) : f.pack (f.isNeg a) (f.mag a) = a := by
  by_cases hneg : f.signBit ≤ a
  · have hmag : a % f.signBit = a - f.signBit := by rw [Nat.mod_eq_sub_mod hneg, Nat.mod_eq_of_lt (by omega)]
    simp only [Fmt.pack, Fmt.isNeg, Fmt.mag, hneg, decide_true, if_true, hmag]
    omega
  · simp [Fmt.pack, Fmt.isNeg, Fmt.mag, hneg, Nat.mod_eq_of_lt (Nat.not_le.mp hneg)]

theorem F32.pack_isNeg_mag (x : F32) : F32.ofPattern (fmt32.pack (fmt32.isNeg x.nat) (fmt32.mag x.nat)) = x := by
  rw [Fmt.pack_isNeg_mag (f := fmt32) (a := x.nat) x.bits.isLt, F32.ofPattern_nat]

/-- A whole number of units that the format holds is its own rounding. -/
theorem Fmt.roundMag_scaled {f : Fmt} {m : Nat} (h : m < f.infMag) : f.roundMag (f.scaled m) 1 = m := by
  simpa using f.roundMag_exact m 1 Nat.one_pos (Nat.le_of_lt h)

theorem F32.isZero_iff {x : F32} : x.isZero = true ↔ fmt32.mag x.nat = 0 := by
  simp [F32.isZero, Fmt.isZero]

theorem F32.isFinite_of_isZero {x : F32} (h : x.isZero = true) : x.isFinite = true := by
  rw [F32.isFinite_iff, F32.isZero_iff.mp h]
  decide +kernel

/-- Both zeros, and no other finite float, have the value 0. -/
theorem F32.val_eq_zero_iff {x : F32} (hx : x.isFinite = true) : x.val = 0 ↔ x.isZero = true := by
  have hle := fmt32.scaled_le_iff (fmt32.mag x.nat) 0 (Nat.le_of_lt (F32.isFinite_iff.mp hx)) (Nat.zero_le _)
  rw [Fmt.scaled_zero] at hle
  rw [F32.isZero_iff, ← Int.natAbs_eq_zero, F32.natAbs_val]
  omega

theorem F32.val_ne_zero {x : F32} (hx : x.isFinite = true) (hnz : x.isZero = false) : x.val ≠ 0 := fun h =>
  Bool.false_ne_true (hnz.symm.trans ((F32.val_eq_zero_iff hx).mp h))

/-- The sign of a value that is not 0 is the sign bit. -/
theorem F32.decide_val_lt_zero {x : F32} (h : x.val ≠ 0) : decide (x.val < 0) = fmt32.isNeg x.nat := by
  unfold F32.val at h ⊢
  cases hneg : fmt32.isNeg x.nat with
  | true => rw [Fmt.toInt_of_neg hneg] at h ⊢; exact decide_eq_true (by omega)
  | false => rw [Fmt.toInt_of_pos hneg] at h ⊢; exact decide_eq_false (by omega)

/-- A sum of finite floats that is not 0 is one rounding of the sum of their values. -/
theorem F32.add_eq_round {x y : F32} (hx : x.isFinite = true) (hy : y.isFinite = true) (h : x.val + y.val ≠ 0) :
    x.add y = F32.ofPattern
      (fmt32.pack (decide (x.val + y.val < 0)) (fmt32.roundMag (x.val + y.val).natAbs 1)) := by
  rw [F32.add, Fmt.add_finite (F32.isFinite_iff.mp hx) (F32.isFinite_iff.mp hy)]
  exact congrArg F32.ofPattern (if_neg h)

/-! ## Zeros -/

theorem F32.sub_eq_add_neg (x y : F32) : x.sub y = x.add y.neg := by
  rw [F32.sub, F32.add, Machine.F32.nat_neg]

/-- A zero of either sign changes no finite float that is not a zero. -/
theorem F32.add_of_isZero {x z : F32} (hx : x.isFinite = true) (hnz : x.isZero = false) (hz : z.isZero = true) :
    x.add z = x := by
  have hzfin := F32.isFinite_of_isZero hz
  have hsum : x.val + z.val = x.val := by rw [(F32.val_eq_zero_iff hzfin).mpr hz, Int.add_zero]
  have hval := F32.val_ne_zero hx hnz
  have hround := Fmt.roundMag_scaled (F32.isFinite_iff.mp hx)
  rw [F32.add_eq_round hx hzfin (by rwa [hsum]), hsum, F32.decide_val_lt_zero hval, F32.natAbs_val,
    hround, F32.pack_isNeg_mag]

theorem F32.sub_of_isZero {x z : F32} (hx : x.isFinite = true) (hnz : x.isZero = false) (hz : z.isZero = true) :
    x.sub z = x := by
  have hneg : z.neg.isZero = true := by
    rw [F32.isZero_iff, Machine.F32.nat_neg, (Machine.Fmt.neg32 z.nat z.bits.isLt).1, F32.isZero_iff.mp hz]
  rw [F32.sub_eq_add_neg, F32.add_of_isZero hx hnz hneg]

/-- A finite float less itself is +0. -/
theorem F32.sub_self {x : F32} (hx : x.isFinite = true) : x.sub x = F32.zero := by
  obtain ⟨hmag, hsign⟩ := Machine.Fmt.neg32 x.nat x.bits.isLt
  have hfin := F32.isFinite_iff.mp hx
  rw [F32.sub, Fmt.add_finite hfin (hmag.trans_lt hfin), if_pos (by rw [Machine.F32.toInt_neg]; omega), hsign,
    Bool.and_not_self]
  rfl

theorem F32.isZero_mul {z w : F32} (hz : z.isZero = true) (hw : w.isFinite = true) : (z.mul w).isZero = true := by
  have hround : fmt32.roundMag 0 (2 ^ fmt32.unit) = 0 := by decide +kernel
  have hzfin := F32.isFinite_of_isZero hz
  rw [F32.isZero_iff, F32.mul, Fmt.mul_finite (F32.isFinite_iff.mp hzfin) (F32.isFinite_iff.mp hw),
    F32.isZero_iff.mp hz, Fmt.scaled_zero, Nat.zero_mul, hround, F32.nat_pack _ fmt32.signBit_pos,
    Fmt.mag_pack _ fmt32.signBit_pos]

/-! ## Doubling and halving -/

/-- A magnitude whose double does not round to infinity is in the lower half of the range. -/
theorem double_lt_infMag_of_round {m : Nat} (hm : m < fmt32.infMag)
    (h : fmt32.roundMag (2 * fmt32.scaled m) 1 < fmt32.infMag) : fmt32.double m < fmt32.infMag := by
  by_contra hover
  have htop : fmt32.scaled fmt32.infMag = 2 * fmt32.scaled (fmt32.infMag - 2 ^ fmt32.mant) := by decide +kernel
  have hle := fmt32.double_le m
  have hhalf : fmt32.scaled (fmt32.infMag - 2 ^ fmt32.mant) ≤ fmt32.scaled m :=
    Fmt.scaled_mono (by omega) (Nat.le_of_lt hm)
  have hround := fmt32.le_roundMag (2 * fmt32.scaled m) 1 fmt32.infMag Nat.one_pos (Nat.le_refl _) (by omega)
  omega

/-- A double that does not overflow is exact. -/
theorem F32.add_self {x : F32} (hx : x.isFinite = true) (hnz : x.isZero = false) (hsum : (x.add x).isFinite = true) :
    fmt32.double (fmt32.mag x.nat) < fmt32.infMag ∧
    x.add x = F32.ofPattern (fmt32.pack (fmt32.isNeg x.nat) (fmt32.double (fmt32.mag x.nat))) := by
  have hval := F32.val_ne_zero hx hnz
  have habs : (x.val + x.val).natAbs = 2 * fmt32.scaled (fmt32.mag x.nat) := by
    rw [← F32.natAbs_val]
    omega
  have hsign : decide (x.val + x.val < 0) = fmt32.isNeg x.nat := by
    rw [← F32.decide_val_lt_zero hval]
    exact decide_eq_decide.mpr (by omega)
  have hadd := F32.add_eq_round hx hx (by omega)
  rw [habs, hsign] at hadd
  have hfit := fmt32.roundMag_lt_signBit (2 * fmt32.scaled (fmt32.mag x.nat)) 1
  have hdouble : fmt32.double (fmt32.mag x.nat) < fmt32.infMag := by
    rw [hadd, F32.isFinite_iff, F32.nat_pack _ hfit, Fmt.mag_pack _ hfit] at hsum
    exact double_lt_infMag_of_round (F32.isFinite_iff.mp hx) hsum
  have hround := Fmt.roundMag_scaled hdouble
  rw [Fmt.scaled_double] at hround
  exact ⟨hdouble, by rw [hadd, hround]⟩

/-- Half of a double that does not overflow is the float doubled. -/
theorem F32.half_mul_add_self {x : F32} (hx : x.isFinite = true) (hnz : x.isZero = false)
    (hsum : (x.add x).isFinite = true) : F32.half.mul (x.add x) = x := by
  have hhalf : fmt32.isNeg F32.half.nat = false ∧ fmt32.mag F32.half.nat < fmt32.infMag ∧
      2 * fmt32.scaled (fmt32.mag F32.half.nat) = 2 ^ fmt32.unit := by decide +kernel
  obtain ⟨hpos, hhfin, hhval⟩ := hhalf
  obtain ⟨hdouble, hadd⟩ := F32.add_self hx hnz hsum
  have hfit := Nat.lt_trans hdouble fmt32.infMag_lt_signBit
  have hprod : fmt32.scaled (fmt32.mag F32.half.nat) * fmt32.scaled (fmt32.double (fmt32.mag x.nat)) =
      fmt32.scaled (fmt32.mag x.nat) * 2 ^ fmt32.unit := by
    rw [Fmt.scaled_double, ← hhval]
    ring
  have hround := fmt32.roundMag_exact (fmt32.mag x.nat) (2 ^ fmt32.unit) (Nat.two_pow_pos _)
    (Nat.le_of_lt (F32.isFinite_iff.mp hx))
  rw [F32.mul, Fmt.mul_finite hhfin (F32.isFinite_iff.mp hsum), hadd, F32.nat_pack _ hfit, Fmt.isNeg_pack _ hfit,
    Fmt.mag_pack _ hfit, hpos, Bool.false_bne, hprod, hround, F32.pack_isNeg_mag]

end Sys2Proof

namespace Sys2Proof.Machine

set_option Elab.async false

/-- Settles O60: the mid of equal channels is the channel, and their side a zero at every finite width. -/
theorem widenerIsIdentityOnMono : Obligations.WidenerIsIdentityOnMono := by
  intro x w hx hsum hnz hw
  have hmid : F32.half.mul (x.add x) = x := F32.half_mul_add_self hx hnz hsum
  have hside : ((F32.half.mul (x.sub x)).mul w).isZero = true := by
    rw [F32.sub_self hx]
    exact F32.isZero_mul (by decide +kernel) hw
  simp only [widen, hmid, F32.add_of_isZero hx hnz hside, F32.sub_of_isZero hx hnz hside]

end Sys2Proof.Machine
end

section
/-! SUPPORT. What is written to `OUT` (R293, R352): a tick's channels are clamped, so their mean is in range too; a
frame's writes reach no element but the frame's own, and every other `OUT` is new. -/

namespace Sys2Proof

set_option Elab.async false

/-! ## Magnitudes of a sum and of a product -/

/-- A sum of finite floats has the rounded magnitude of the sum of their values. -/
theorem F32.mag_add {x y : F32} (hx : x.isFinite = true) (hy : y.isFinite = true) :
    fmt32.mag (x.add y).nat = fmt32.roundMag (x.val + y.val).natAbs 1 := by
  have hsub := F32.mag_sub hx ((F32.isFinite_neg y).trans hy)
  rwa [F32.sub_eq_add_neg, Machine.F32.neg_neg, F32.val_neg, Int.sub_neg] at hsub

/-- A product of finite floats has the rounded magnitude of the product of their values. -/
theorem F32.mag_mul {x y : F32} (hx : x.isFinite = true) (hy : y.isFinite = true) :
    fmt32.mag (x.mul y).nat = fmt32.roundMag (x.val.natAbs * y.val.natAbs) (2 ^ fmt32.unit) := by
  have hfit := fmt32.roundMag_lt_signBit (x.val.natAbs * y.val.natAbs) (2 ^ fmt32.unit)
  rw [F32.mul, Fmt.mul_finite (F32.isFinite_iff.mp hx) (F32.isFinite_iff.mp hy), ← F32.natAbs_val, ← F32.natAbs_val,
    F32.nat_pack _ hfit, Fmt.mag_pack _ hfit]

end Sys2Proof

namespace Sys2Proof.Machine

set_option Elab.async false

/-! ## Samples in range (R293) -/

/-- The magnitude bits of 2.0, the end of R293's range. -/
def twoMag : Nat := 0x40000000

theorem twoMag_lt_infMag : twoMag < fmt32.infMag := by decide +kernel

/-- The range [-2, 2] on values. -/
theorem sampleSafe_iff_val {x : F32} :
    sampleSafe x = true ↔ x.isFinite = true ∧ x.val.natAbs ≤ fmt32.scaled twoMag := by
  have htwo : F32.two.isFinite = true ∧ F32.two.val = fmt32.scaled twoMag := by decide +kernel
  obtain ⟨hfin, hval⟩ := htwo
  rw [sampleSafe, F32.within_neg_iff hfin, hval, Int.ofNat_le]

/-- The range [-2, 2] on magnitude bits. -/
theorem sampleSafe_of_mag_le {x : F32} (h : fmt32.mag x.nat ≤ twoMag) : sampleSafe x = true :=
  sampleSafe_iff_val.mpr ⟨F32.isFinite_iff.mpr (Nat.lt_of_le_of_lt h twoMag_lt_infMag),
    F32.natAbs_val x ▸ Fmt.scaled_mono h (Nat.le_of_lt twoMag_lt_infMag)⟩

/-- The sum of two safe samples is at most 4 in magnitude. -/
theorem add_bounded_of_safe {x y : F32} (hx : sampleSafe x = true) (hy : sampleSafe y = true) :
    (x.add y).isFinite = true ∧ (x.add y).val.natAbs ≤ fmt32.scaled fourMag := by
  have hfour : fmt32.scaled fourMag = 2 * fmt32.scaled twoMag := by decide +kernel
  obtain ⟨hxfin, hxval⟩ := sampleSafe_iff_val.mp hx
  obtain ⟨hyfin, hyval⟩ := sampleSafe_iff_val.mp hy
  have hmag : fmt32.mag (x.add y).nat ≤ fourMag := by
    rw [F32.mag_add hxfin hyfin]
    exact fmt32.roundMag_le _ _ _ Nat.one_pos (by omega)
  exact ⟨F32.isFinite_iff.mpr (Nat.lt_of_le_of_lt hmag fourMag_lt_infMag),
    F32.natAbs_val _ ▸ Fmt.scaled_mono hmag (Nat.le_of_lt fourMag_lt_infMag)⟩

/-- R352: the mean of two safe samples is safe. -/
theorem mean_safe {x y : F32} (hx : sampleSafe x = true) (hy : sampleSafe y = true) :
    sampleSafe (F32.half.mul (x.add y)) = true := by
  have hhalf : F32.half.isFinite = true ∧
      F32.half.val.natAbs * fmt32.scaled fourMag = fmt32.scaled twoMag * 2 ^ fmt32.unit := by decide +kernel
  obtain ⟨hhfin, hhval⟩ := hhalf
  obtain ⟨hfin, hval⟩ := add_bounded_of_safe hx hy
  refine sampleSafe_of_mag_le ?_
  rw [F32.mag_mul hhfin hfin]
  exact fmt32.roundMag_le _ _ _ (Nat.two_pow_pos _) (hhval ▸ Nat.mul_le_mul_left _ hval)

/-- R290: the clamp is the last stage of a channel. -/
theorem masterChannel_safe (p : Nat → F32) (sr x : F32) (lpLo lpHi : OnePole) :
    sampleSafe (masterChannel p sr x lpLo lpHi).1 = true := clamp2_safe _

/-- R350: a tick gives what the master's two channels give. -/
theorem tick_safe (s : State) : lrAll sampleSafe (tick s).1 = true :=
  lrAll_iff.mpr ⟨masterChannel_safe _ _ _ _ _, masterChannel_safe _ _ _ _ _⟩

/-- R352: a frame's elements are the two channels and their mean. -/
theorem mem_frameElems {nc : Nat} {o : LR F32} {v : F32} (h : v ∈ frameElems nc o) :
    v = o.l ∨ v = o.r ∨ v = F32.half.mul (o.l.add o.r) := by
  unfold frameElems at h
  split at h
  · cases h
  · split at h
    · exact .inr (.inr (List.mem_singleton.mp h))
    · simp only [List.mem_cons, List.mem_replicate] at h
      rcases h with hl | hr | ⟨-, hmean⟩
      · exact .inl hl
      · exact .inr (.inl hr)
      · exact .inr (.inr hmean)

theorem frameElems_safe {nc : Nat} {o : LR F32} (ho : lrAll sampleSafe o = true) :
    ∀ v ∈ frameElems nc o, sampleSafe v = true := by
  obtain ⟨hl, hr⟩ := lrAll_iff.mp ho
  intro v hv
  rcases mem_frameElems hv with rfl | rfl | rfl
  · exact hl
  · exact hr
  · exact mean_safe hl hr

/-! ## Elements of `OUT` (R72) -/

theorem OutBuf.at?_eq_some_iff {o : OutBuf} {i : Nat} {v : F32} :
    o.at? i = some v ↔ i < o.len ∧ Store.get F32.zero o.cells i = v := by
  simp [OutBuf.at?]

/-- R352: after elements are appended, each element was there before or is one of them. -/
theorem OutBuf.at?_writeAll_len {o : OutBuf} {i : Nat} {v : F32} {vs : List F32}
    (hwf : Store.wf (fun _ => F32.zero) o.cells = true) (h : (o.writeAll o.len vs).at? i = some v) :
    o.at? i = some v ∨ v ∈ vs := by
  obtain ⟨hi, hget⟩ := OutBuf.at?_eq_some_iff.mp h
  by_cases hold : i < o.len
  · rw [OutBuf.writeAll_get_lt _ _ _ _ hold] at hget
    exact .inl (OutBuf.at?_eq_some_iff.mpr ⟨hold, hget⟩)
  · obtain ⟨k, rfl⟩ := Nat.exists_eq_add_of_le (Nat.not_lt.mp hold)
    have hk : k < vs.length := by
      rw [OutBuf.writeAll_len] at hi
      split at hi <;> omega
    rw [OutBuf.writeAll_get _ _ _ _ hk hwf] at hget
    exact .inr (hget ▸ List.getElem_mem hk)

/-! ## `OUT` in the machine (R345, R348, R352) -/

theorem outputSafe_congr {s t : State} (hs : OutputSafe s) (hout : t.out = s.out) : OutputSafe t := by
  rwa [OutputSafe, hout]

/-- R348: every element of a buffer of zeros is safe. -/
theorem outputSafe_of_zeros {s : State} {n : Nat} (hout : s.out = ⟨n, []⟩) : OutputSafe s := by
  intro i v hv
  rw [hout] at hv
  obtain ⟨-, rfl⟩ := OutBuf.at?_eq_some_iff.mp hv
  rw [Store.get_nil]
  decide +kernel

/-- R352: a frame of safe channels, written where the frames done end. -/
theorem outputSafe_writeFrame {s : State} {n nc : Nat} {o : LR F32}
    (hwf : Store.wf (fun _ => F32.zero) s.out.cells = true) (hlen : s.out.len = n * nc)
    (ho : lrAll sampleSafe o = true) (hs : OutputSafe s) : OutputSafe (s.writeFrame n nc o) := by
  intro i v hv
  rw [State.writeFrame_out, ← hlen] at hv
  rcases OutBuf.at?_writeAll_len hwf hv with hold | hnew
  · exact hs i v hold
  · exact frameElems_safe ho v hnew

theorem tickStep_out (r : Render) (s : State) :
    (tickStep r s).out = ((tick s).2.writeFrame r.n.toNat r.numChannels.toNat (tick s).1).out := by
  rcases tickStep_cases r s with ⟨-, he⟩ | ⟨-, he⟩ <;> rw [he] <;> rfl

theorem outputSafe_tickStep {s : State} {r : Render} (hwf : Store.wf (fun _ => F32.zero) s.out.cells = true)
    (hlen : s.out.len = r.n.toNat * r.numChannels.toNat) (hs : OutputSafe s) : OutputSafe (tickStep r s) := by
  have hout := tick_out s
  refine outputSafe_congr (outputSafe_writeFrame ?_ ?_ (tick_safe s) (outputSafe_congr hs hout)) (tickStep_out r s)
  · rwa [hout]
  · rwa [hout]

/-- Of the engine's micro-steps a tick alone writes `OUT`, and it appends its frame. -/
theorem advance_keeps_outputSafe {s t : State} (hspaces : SpacesWf s) (hlegal : RenderLegal s = true)
    (hs : OutputSafe s) (h : Advance s t) : OutputSafe t := by
  cases h with
  | ticked r hr hp =>
    rw [renderLegal_some hr, legal_tick hp] at hlegal
    obtain ⟨-, -, -, hlen⟩ := hlegal
    exact outputSafe_tickStep hspaces.out hlen hs
  | _ => exact outputSafe_congr hs (by simp)

/-- R345, R348: a word leaves `OUT` alone or makes it new: empty, or all zeros. -/
theorem taken_keeps_outputSafe {x : Presented} {s t : State} (hs : OutputSafe s) (h : Taken x s t) :
    OutputSafe t := by
  cases h with
  | accepted nf nc hp => exact outputSafe_of_zeros (s.accept_out nf nc)
  | zeroed nf nc hp hr => exact outputSafe_of_zeros (s.writeZeros_out nf nc)
  | _ => exact outputSafe_congr hs (by simp)

/-- Settles O40: `OUT` is made new, or grows by a frame whose elements are the master's clamped channels and their mean;
the legal progress puts that frame right after what is written. -/
theorem stepKeepsOutputSafe : Obligations.StepKeepsOutputSafe := by
  intro s t hwf hlegal hs h
  obtain ⟨hspaces, -⟩ := Memory.wf_iff.mp hwf
  have hspaces' (ib : List Presented) : SpacesWf { s with inbox := ib } :=
    spacesWf_congr hspaces rfl rfl rfl rfl rfl
  rcases step_inv h with ⟨-, ib, ha⟩ | ⟨x, rest, -, -, ht⟩
  · exact advance_keeps_outputSafe (s := { s with inbox := ib }) (hspaces' ib) hlegal hs ha
  · exact taken_keeps_outputSafe (s := { s with inbox := rest }) hs ht

end Sys2Proof.Machine
end

section
/-! SUPPORT. The transport (R301 to R308): a tick by cases and a firing's triggers; integers are exact in binary64, so a
whole number of frames per step gives the position after any number of ticks in closed form. -/

namespace Sys2Proof

set_option Elab.async false

/-! ## Integers in binary64 (R13, U16) -/

/-- Below two to the precision the magnitude bits of a number of units are the number. -/
theorem Fmt.scaled_of_lt {f : Fmt} {n : Nat} (h : n < 2 ^ (f.mant + 1)) : f.scaled n = n := by
  have hp : 0 < 2 ^ f.mant := Nat.two_pow_pos _
  rw [Nat.pow_succ] at h
  unfold Fmt.scaled
  split
  · rfl
  · next hne =>
    have hdiv : n / 2 ^ f.mant = 1 :=
      Nat.le_antisymm (Nat.le_of_lt_succ (Nat.div_lt_of_lt_mul h)) (Nat.pos_of_ne_zero hne)
    have hmod := Nat.div_add_mod n (2 ^ f.mant)
    rw [hdiv] at hmod ⊢
    omega

theorem Fmt.scaled_double_iterate (f : Fmt) (k m : Nat) : f.scaled (f.double^[k] m) = f.scaled m * 2 ^ k := by
  induction k with
  | zero => simp
  | succ k ih => rw [Function.iterate_succ_apply', Fmt.scaled_double, ih, Nat.pow_succ]; ring

theorem Fmt.double_iterate_le (f : Fmt) (k m : Nat) : f.double^[k] m ≤ m + k * 2 ^ f.mant := by
  induction k with
  | zero => simp
  | succ k ih =>
    have hstep := f.double_le (f.double^[k] m)
    rw [Function.iterate_succ_apply', Nat.succ_mul]
    omega

theorem Fmt.pack_false (f : Fmt) (m : Nat) : f.pack false m = m := rfl

/-- The magnitude bits of an integer below 2^53 reach its value by doublings from the smallest subnormals. -/
theorem F64.ofNat_eq_double {n : Nat} (h : n < 2 ^ 53) :
    F64.ofNat n = F64.ofPattern (fmt64.double^[fmt64.unit] n) ∧ fmt64.double^[fmt64.unit] n < fmt64.infMag := by
  have hfin : fmt64.double^[fmt64.unit] n < fmt64.infMag := by
    have htop : 2 ^ 53 + fmt64.unit * 2 ^ fmt64.mant ≤ fmt64.infMag := by decide
    have hle := fmt64.double_iterate_le fmt64.unit n
    omega
  have hval : fmt64.scaled (fmt64.double^[fmt64.unit] n) = n * 2 ^ fmt64.unit := by
    rw [Fmt.scaled_double_iterate, Fmt.scaled_of_lt h]
  exact ⟨by rw [F64.ofNat, ← hval, Fmt.roundMag_scaled hfin], hfin⟩

/-- An integer below 2^53 is exact in binary64: finite, without a sign, and of its own value. -/
theorem F64.ofNat_exact {n : Nat} (h : n < 2 ^ 53) : fmt64.isNeg (F64.ofNat n).nat = false ∧
    fmt64.mag (F64.ofNat n).nat < fmt64.infMag ∧ fmt64.toInt (F64.ofNat n).nat = (n * 2 ^ fmt64.unit : Nat) := by
  obtain ⟨he, hfin⟩ := F64.ofNat_eq_double h
  have hfit := Nat.lt_trans hfin fmt64.infMag_lt_signBit
  have hnat : (F64.ofNat n).nat = fmt64.pack false (fmt64.double^[fmt64.unit] n) := by
    rw [he, ← F64.nat_pack false hfit, Fmt.pack_false]
  have hneg := Fmt.isNeg_pack false hfit
  have hmag := Fmt.mag_pack false hfit
  rw [hnat]
  refine ⟨hneg, hmag.trans_lt hfin, ?_⟩
  rw [Fmt.toInt_of_pos hneg, hmag, Fmt.scaled_double_iterate, Fmt.scaled_of_lt h]

theorem F64.ofNat_le_ofNat {a b : Nat} (ha : a < 2 ^ 53) (hb : b < 2 ^ 53) :
    (F64.ofNat a).le (F64.ofNat b) = true ↔ a ≤ b := by
  obtain ⟨-, hfa, hva⟩ := F64.ofNat_exact ha
  obtain ⟨-, hfb, hvb⟩ := F64.ofNat_exact hb
  rw [F64.le, Fmt.le_iff, Fmt.key_le_iff hfa hfb, hva, hvb, Int.ofNat_le,
    Nat.mul_le_mul_right_iff (Nat.two_pow_pos fmt64.unit)]
  simp [(Fmt.finite_iff.mp hfa).1, (Fmt.finite_iff.mp hfb).1]

/-- The sum of two exact integers is their integer sum, rounded once. -/
theorem F64.ofNat_add_ofNat {a b : Nat} (ha : a < 2 ^ 53) (hb : b < 2 ^ 53) :
    (F64.ofNat a).add (F64.ofNat b) = F64.ofNat (a + b) := by
  obtain ⟨hna, hfa, hva⟩ := F64.ofNat_exact ha
  obtain ⟨hnb, hfb, hvb⟩ := F64.ofNat_exact hb
  have hsum : fmt64.toInt (F64.ofNat a).nat + fmt64.toInt (F64.ofNat b).nat =
      ((a + b) * 2 ^ fmt64.unit : Nat) := by
    rw [hva, hvb, Nat.add_mul, Int.natCast_add]
  have hpos : decide ((((a + b) * 2 ^ fmt64.unit : Nat) : Int) < 0) = false :=
    decide_eq_false (Int.not_lt.mpr (Int.natCast_nonneg _))
  rw [F64.add, Fmt.add_finite hfa hfb, hsum, hna, hnb, hpos, Int.natAbs_natCast, F64.ofNat]
  split
  · next h0 =>
    rw [Int.natCast_eq_zero.mp h0]
    decide
  · rw [Fmt.pack_false]

end Sys2Proof

namespace Sys2Proof.Machine

set_option Elab.async false

/-! ## One tick of the transport (R301 to R304) -/

theorem Transport.tick_waiting {t : Transport} (sr : F32) (hplay : t.playing = true) (hdue : t.due = false) :
    t.tick sr = t.count := by
  simp [Transport.tick, hplay, hdue]

theorem Transport.tick_firing {t : Transport} (sr : F32) (hplay : t.playing = true) (hdue : t.due = true) :
    t.tick sr = (t.fire sr).count := by
  simp [Transport.tick, hplay, hdue]

/-- Settles O49: a stopped transport stays, a playing one counts, and fires first when it is due. -/
theorem tickMovesTheTransport : Obligations.TickMovesTheTransport := by
  intro s
  rw [tick_transport]
  exact ⟨s.t.tick_stopped s.g.sr, s.t.tick_waiting s.g.sr, s.t.tick_firing s.g.sr⟩

/-! ## The triggers of a firing (R305) -/

section
variable {st : Nat} {s : State}

theorem triggerStep_kick_on (h : (s.patAt 0 st).on = true) :
    (triggerStep st s).k = s.k.trigger s.cfg s.par (s.patAt 0 st).velocity ∧
      (triggerStep st s).fx = s.fx.trigger := by
  simp [triggerStep, h]

theorem triggerStep_kick_off (h : (s.patAt 0 st).on = false) :
    (triggerStep st s).k = s.k ∧ (triggerStep st s).fx = s.fx := by
  simp [triggerStep, h]

theorem triggerStep_snare_on (h : (s.patAt 1 st).on = true) :
    (triggerStep st s).sn = s.sn.trigger (s.patAt 1 st).velocity := by
  simp [triggerStep, h]

theorem triggerStep_snare_off (h : (s.patAt 1 st).on = false) : (triggerStep st s).sn = s.sn := by
  simp [triggerStep, h]

theorem triggerStep_hat_on (h : (s.patAt 2 st).on = true) :
    (triggerStep st s).ht = s.ht.trigger (s.patAt 2 st).velocity := by
  simp [triggerStep, h]

theorem triggerStep_hat_off (h : (s.patAt 2 st).on = false) : (triggerStep st s).ht = s.ht := by
  simp [triggerStep, h]

theorem transportStep_firing (hplay : s.t.playing = true) (hdue : s.t.due = true) :
    transportStep s = { triggerStep s.t.stepIndex.toNat s with t := s.t.fire s.g.sr } := by
  simp [transportStep, hplay, hdue]

end

/-- Settles O51: a firing is the step's triggers beside the transport's own move, and each lane's voice follows that
lane's element. -/
theorem firingTriggersTheStepsThatAreOn : Obligations.FiringTriggersTheStepsThatAreOn := by
  intro s hplay hdue
  rw [transportStep_firing hplay hdue]
  exact ⟨triggerStep_kick_on, triggerStep_kick_off, triggerStep_snare_on, triggerStep_snare_off, triggerStep_hat_on,
    triggerStep_hat_off⟩

/-! ## A whole number of frames per step (R307, R308) -/

/-- The firings in the first `n` frames, one at frame 0 and one every `d` frames. -/
def firings (d n : Nat) : Nat := n ⌈/⌉ d

/-- The transport after `n` ticks of playing from position 0 at `d` frames per step. -/
def Transport.onSchedule (bpm : F32) (d n : Nat) : Transport where
  bpm := bpm
  playing := true
  stepIndex := BitVec.ofNat 4 (firings d n)
  currentFrame := BitVec.ofNat 64 n
  nextStepFrame := F64.ofNat (d * firings d n)

section
variable {d n : Nat}

theorem firings_le_iff (hd : 0 < d) {c : Nat} : firings d n ≤ c ↔ n ≤ d * c := ceilDiv_le_iff_le_mul hd

/-- The next firing is the first multiple of `d` not below the frame. -/
theorem le_mul_firings (hd : 0 < d) : n ≤ d * firings d n := (firings_le_iff hd).mp (Nat.le_refl _)

theorem mul_firings_lt (hd : 0 < d) : d * firings d n < n + d := by
  rw [firings, Nat.ceilDiv_eq_add_pred_div]
  have hle := Nat.mul_div_le (n + d - 1) d
  omega

theorem firings_le_succ (hd : 0 < d) : firings d n ≤ firings d (n + 1) :=
  (firings_le_iff hd).mpr (Nat.le_of_succ_le (le_mul_firings hd))

theorem firings_succ_waiting (hd : 0 < d) (h : n < d * firings d n) : firings d (n + 1) = firings d n :=
  Nat.le_antisymm ((firings_le_iff hd).mpr h) (firings_le_succ hd)

theorem firings_succ_firing (hd : 0 < d) (h : d * firings d n ≤ n) : firings d (n + 1) = firings d n + 1 := by
  refine Nat.le_antisymm ((firings_le_iff hd).mpr ?_) (Nat.lt_of_not_le fun hc => ?_)
  · have hn := le_mul_firings (n := n) hd
    rw [Nat.mul_succ]
    omega
  · exact Nat.not_le.mpr (Nat.lt_succ_of_le h) ((firings_le_iff hd).mp hc)

/-- R301: on the schedule a step fires where the frame has reached the next multiple of `d`. -/
theorem Transport.due_onSchedule (bpm : F32) (hd : 0 < d) (hn : n + d < 2 ^ 53) :
    (Transport.onSchedule bpm d n).due = true ↔ d * firings d n ≤ n := by
  have hnext := mul_firings_lt (n := n) hd
  have hframe : (BitVec.ofNat 64 n).toNat = n := Nat.mod_eq_of_lt (by omega)
  rw [Transport.due, Transport.onSchedule, hframe]
  exact F64.ofNat_le_ofNat (by omega) (by omega)

/-- A tick keeps to the schedule: the binary64 sums of R303 stay exact below 2^53. -/
theorem Transport.tick_onSchedule {sr bpm : F32} (hfps : framesPerStep sr bpm = F64.ofNat d) (hd : 0 < d)
    (hn : n + d < 2 ^ 53) : (Transport.onSchedule bpm d n).tick sr = Transport.onSchedule bpm d (n + 1) := by
  have hiff := Transport.due_onSchedule bpm hd hn
  have hnext := mul_firings_lt (n := n) hd
  cases hdue : (Transport.onSchedule bpm d n).due with
  | false =>
    have hwait : n < d * firings d n := by simpa [hdue] using hiff
    rw [Transport.tick_waiting sr rfl hdue, Transport.onSchedule, Transport.onSchedule, firings_succ_waiting hd hwait,
      Transport.count, BitVec.ofNat_add]
  | true =>
    have hfire := hiff.mp hdue
    have hsum := F64.ofNat_add_ofNat (a := d * firings d n) (b := d) (by omega) (by omega)
    rw [Transport.tick_firing sr rfl hdue, Transport.onSchedule, Transport.onSchedule, firings_succ_firing hd hfire,
      Transport.fire, Transport.count, hfps, hsum, BitVec.ofNat_add, BitVec.ofNat_add, Nat.mul_succ]

theorem Transport.tick_iterate_onSchedule {sr bpm : F32} (hfps : framesPerStep sr bpm = F64.ofNat d) (hd : 0 < d)
    (hn : n + d < 2 ^ 53) : (Transport.tick sr)^[n] (Transport.onSchedule bpm d 0) = Transport.onSchedule bpm d n := by
  induction n with
  | zero => rfl
  | succ n ih => rw [Function.iterate_succ_apply', ih (by omega), Transport.tick_onSchedule hfps hd (by omega)]

end

/-- Ticks of the machine are ticks of its transport at the rate of the block. -/
theorem tick_iterate_transport (n : Nat) (s : State) :
    ((fun s => (tick s).2)^[n] s).t = (Transport.tick s.g.sr)^[n] s.t := by
  induction n generalizing s with
  | zero => rfl
  | succ n ih => rw [Function.iterate_succ_apply, ih, tick_g, tick_transport, Function.iterate_succ_apply]

/-- R303's example. -/
theorem framesPerStep_48000_120 : framesPerStep ⟨0x473B8000#32⟩ ⟨0x42F00000#32⟩ = F64.ofNat 6000 := by decide +kernel

/-- Settles O50: sixteen firings fall in the first 96 000 frames of the schedule of 6000 frames per step. -/
theorem sixteenStepsTake96000Frames : Obligations.SixteenStepsTake96000Frames := by
  intro s hsr ht
  have hstart : s.t = Transport.onSchedule ⟨0x42F00000#32⟩ 6000 0 := ht.trans (by decide +kernel)
  rw [tick_iterate_transport, hsr, hstart,
    Transport.tick_iterate_onSchedule framesPerStep_48000_120 (by decide) (by decide)]
  decide +kernel

end Sys2Proof.Machine
end

section
/-! SUPPORT. Zeros of binary32 (R13): sums, differences and products of zeros of either sign, and what a product of a
zero by any float can be. -/

namespace Sys2Proof

set_option Elab.async false

/-! ## Zeros of either sign -/

theorem F32.isZero_zero : F32.zero.isZero = true := by decide +kernel

theorem F32.isZero_cases {x : F32} (h : x.isZero = true) : x = F32.zero ∨ x = F32.zero.neg := by
  have hneg : F32.ofPattern (fmt32.pack true 0) = F32.zero.neg := by decide +kernel
  rw [← F32.pack_isNeg_mag x, F32.isZero_iff.mp h]
  cases fmt32.isNeg x.nat with
  | false => exact .inl rfl
  | true => exact .inr hneg

theorem F32.isZero_add {x y : F32} (hx : x.isZero = true) (hy : y.isZero = true) : (x.add y).isZero = true := by
  rcases F32.isZero_cases hx with rfl | rfl <;> rcases F32.isZero_cases hy with rfl | rfl <;> decide +kernel

theorem F32.isZero_sub {x y : F32} (hx : x.isZero = true) (hy : y.isZero = true) : (x.sub y).isZero = true := by
  rcases F32.isZero_cases hx with rfl | rfl <;> rcases F32.isZero_cases hy with rfl | rfl <;> decide +kernel

theorem F32.mul_comm (x y : F32) : x.mul y = y.mul x := by
  simp only [F32.mul, Fmt.mul, Bool.or_comm, Bool.and_comm, Nat.mul_comm, bne_comm (a := fmt32.isNeg x.nat)]

theorem F32.isZero_mul_right {w z : F32} (hw : w.isFinite = true) (hz : z.isZero = true) : (w.mul z).isZero = true := by
  rw [F32.mul_comm]
  exact F32.isZero_mul hz hw

theorem F32.isZero_abs {x : F32} (hx : x.isZero = true) : x.abs.isZero = true := by
  rcases F32.isZero_cases hx with rfl | rfl <;> decide +kernel

/-! ## A zero or a NaN -/

/-- What a zero times any gain is: a zero, or the NaN of a zero times an infinity. -/
def F32.Void (x : F32) : Prop := x.isZero = true ∨ x.isNaN = true

/-- `F32.Void` without -0. -/
def F32.PlusVoid (x : F32) : Prop := x = F32.zero ∨ x.isNaN = true

theorem F32.isNaN_nan : F32.nan.isNaN = true := by decide +kernel

theorem F32.add_of_isNaN {x y : F32} (h : x.isNaN = true ∨ y.isNaN = true) : x.add y = F32.nan := by
  have hor : (fmt32.isNaN x.nat || fmt32.isNaN y.nat) = true := Bool.or_eq_true_iff.mpr h
  simp only [F32.add, Fmt.add, hor, if_true]
  rfl

theorem F32.mul_of_isNaN {x y : F32} (h : x.isNaN = true ∨ y.isNaN = true) : x.mul y = F32.nan := by
  have hor : (fmt32.isNaN x.nat || fmt32.isNaN y.nat) = true := Bool.or_eq_true_iff.mpr h
  simp only [F32.mul, Fmt.mul, hor, if_true]
  rfl

theorem F32.div_of_isNaN {x y : F32} (h : x.isNaN = true ∨ y.isNaN = true) : x.div y = F32.nan := by
  have hor : (fmt32.isNaN x.nat || fmt32.isNaN y.nat) = true := Bool.or_eq_true_iff.mpr h
  simp only [F32.div, Fmt.div, hor, if_true]
  rfl

theorem F32.mul_of_isZero_of_isInf {z g : F32} (hz : z.isZero = true) (hg : g.isInf = true) : z.mul g = F32.nan := by
  have hz' : fmt32.isZero z.nat = true := hz
  have hg' : fmt32.isInf g.nat = true := hg
  have hqnan : F32.ofPattern fmt32.qnan = F32.nan := by decide +kernel
  simp [F32.mul, Fmt.mul, hz', hg', hqnan]

theorem F32.isFinite_or (g : F32) : g.isFinite = true ∨ g.isNaN = true ∨ g.isInf = true := by
  cases hnan : g.isNaN <;> cases hinf : g.isInf <;> simp [F32.isFinite, hnan, hinf]

theorem F32.Void.mul {x : F32} (hx : x.Void) (g : F32) : (x.mul g).Void := by
  rcases hx with hz | hnan
  · rcases F32.isFinite_or g with hfin | hgnan | hinf
    · exact .inl (F32.isZero_mul hz hfin)
    · exact .inr (F32.mul_of_isNaN (.inr hgnan) ▸ F32.isNaN_nan)
    · exact .inr (F32.mul_of_isZero_of_isInf hz hinf ▸ F32.isNaN_nan)
  · exact .inr (F32.mul_of_isNaN (.inl hnan) ▸ F32.isNaN_nan)

theorem F32.Void.add {x y : F32} (hx : x.Void) (hy : y.Void) : (x.add y).Void := by
  rcases hx with hx | hx
  · rcases hy with hy | hy
    · exact .inl (F32.isZero_add hx hy)
    · exact .inr (F32.add_of_isNaN (.inr hy) ▸ F32.isNaN_nan)
  · exact .inr (F32.add_of_isNaN (.inl hx) ▸ F32.isNaN_nan)

/-- A product of floats without a sign has none. -/
theorem F32.zero_mul_of_pos {g : F32} (hfin : g.isFinite = true) (hg : g.isNeg = false) :
    F32.zero.mul g = F32.zero := by
  have hzero : fmt32.isNeg F32.zero.nat = false ∧ fmt32.scaled (fmt32.mag F32.zero.nat) = 0 ∧
      fmt32.mag F32.zero.nat < fmt32.infMag ∧ fmt32.roundMag 0 (2 ^ fmt32.unit) = 0 := by decide +kernel
  obtain ⟨hpos, hval, hzfin, hround⟩ := hzero
  have hg' : fmt32.isNeg g.nat = false := hg
  rw [F32.mul, Fmt.mul_finite hzfin (F32.isFinite_iff.mp hfin), hpos, hval, hg', Nat.zero_mul, hround]
  rfl

theorem F32.PlusVoid.mul {x g : F32} (hx : x.PlusVoid) (hg : g.isNeg = false) : (x.mul g).PlusVoid := by
  rcases hx with rfl | hnan
  · rcases F32.isFinite_or g with hfin | hgnan | hinf
    · exact .inl (F32.zero_mul_of_pos hfin hg)
    · exact .inr (F32.mul_of_isNaN (.inr hgnan) ▸ F32.isNaN_nan)
    · exact .inr (F32.mul_of_isZero_of_isInf F32.isZero_zero hinf ▸ F32.isNaN_nan)
  · exact .inr (F32.mul_of_isNaN (.inl hnan) ▸ F32.isNaN_nan)

/-- +0 and a zero of either sign make +0. -/
theorem F32.zero_add_of_isZero {y : F32} (hy : y.isZero = true) : F32.zero.add y = F32.zero := by
  rcases F32.isZero_cases hy with rfl | rfl <;> decide +kernel

theorem F32.PlusVoid.add {x y : F32} (hx : x.PlusVoid) (hy : y.Void) : (x.add y).PlusVoid := by
  rcases hx with rfl | hx
  · rcases hy with hy | hy
    · exact .inl (F32.zero_add_of_isZero hy)
    · exact .inr (F32.add_of_isNaN (.inr hy) ▸ F32.isNaN_nan)
  · exact .inr (F32.add_of_isNaN (.inl hx) ▸ F32.isNaN_nan)

theorem F32.isNeg_of_zero_lt {x : F32} (h : F32.zero.lt x = true) : x.isNeg = false := by
  have hkey : fmt32.key F32.zero.nat = 0 := by decide +kernel
  obtain ⟨-, -, hlt⟩ := Fmt.lt_iff.mp h
  rw [hkey] at hlt
  refine Bool.eq_false_iff.mpr fun hneg => ?_
  rw [Fmt.key_of_neg hneg] at hlt
  omega

/-! ## Quotients -/

/-- A quotient of floats without a sign passes no magnitude that the greatest numerator over the least denominator does
not pass. -/
theorem F32.UpTo.div {a b m : Nat} {x y : F32} (hx : F32.UpTo a x) (ha : a < fmt32.infMag)
    (hfin : y.isFinite = true) (hpos : fmt32.isNeg y.nat = false) (hb : b ≤ fmt32.mag y.nat) (hb0 : 0 < b)
    (hm : fmt32.scaled a * 2 ^ fmt32.unit ≤ fmt32.scaled m * fmt32.scaled b) : F32.UpTo m (x.div y) := by
  have hyfin := F32.isFinite_iff.mp hfin
  have hden := Fmt.scaled_mono hb (Nat.le_of_lt hyfin)
  have hden0 : 0 < fmt32.scaled (fmt32.mag y.nat) := by
    have h0 := fmt32.scaled_le_iff (fmt32.mag y.nat) 0 (Nat.le_of_lt hyfin) (Nat.zero_le _)
    rw [Fmt.scaled_zero] at h0
    omega
  rw [F32.div, Fmt.div_finite (F32.isFinite_iff.mp (hx.isFinite ha)) hyfin (by omega), hx.pos, hpos,
    bne_self_eq_false]
  refine F32.upTo_round hden0 ?_
  calc fmt32.scaled (fmt32.mag x.nat) * 2 ^ fmt32.unit
      ≤ fmt32.scaled a * 2 ^ fmt32.unit := Nat.mul_le_mul_right _ (hx.scaled_le ha)
    _ ≤ fmt32.scaled m * fmt32.scaled b := hm
    _ ≤ fmt32.scaled m * fmt32.scaled (fmt32.mag y.nat) := Nat.mul_le_mul_left _ hden

/-- A range whose ends have no sign, and its least and greatest magnitudes. -/
theorem F32.upTo_of_within {lo hi x : F32} (hlo : fmt32.isNeg lo.nat = false) (hlo0 : 0 < fmt32.mag lo.nat)
    (hhi : fmt32.isNeg hi.nat = false) (h : Machine.F32.within lo hi x = true) :
    F32.UpTo (fmt32.mag hi.nat) x ∧ fmt32.mag lo.nat ≤ fmt32.mag x.nat := by
  obtain ⟨hl, hh⟩ := Machine.F32.within_iff.mp h
  obtain ⟨-, -, hl⟩ := Fmt.le_iff.mp hl
  obtain ⟨-, -, hh⟩ := Fmt.le_iff.mp hh
  rw [Fmt.key_of_pos hlo] at hl
  rw [Fmt.key_of_pos hhi] at hh
  have hpos : fmt32.isNeg x.nat = false := by
    refine Bool.eq_false_iff.mpr fun hneg => ?_
    rw [Fmt.key_of_neg hneg] at hl
    omega
  rw [Fmt.key_of_pos hpos] at hl hh
  exact ⟨⟨hpos, by omega⟩, by omega⟩

end Sys2Proof
end

section
/-! SUPPORT. Coefficients and parameters of the reference configuration (R10, R40, R154, R260): at a rate of at least
16 Hz every filter and follower coefficient is in [0, 1], and every parameter in its range is finite. -/

namespace Sys2Proof.Machine

set_option Elab.async false

/-! ## Coefficients (R154, R260) -/

/-- 1 less a member of [0, 1] has no sign, 1 less 1 being +0. -/
theorem F32.isNeg_one_sub {x : F32} (hx : F32.unit x = true) : (F32.one.sub x).isNeg = false := by
  have hone : fmt32.mag F32.one.nat < fmt32.infMag ∧ fmt32.isNeg F32.one.nat = false ∧
      fmt32.toInt F32.one.nat = (2 ^ fmt32.unit : Nat) := by decide +kernel
  obtain ⟨hfin, hpos, hval⟩ := hone
  have hle := F32.unit_scaled_le hx
  have hxfin : fmt32.mag x.neg.nat < fmt32.infMag := by
    rw [F32.nat_neg, (Fmt.neg32 x.nat x.bits.isLt).1]
    exact F32.unit_finite hx
  have hsum : 0 ≤ fmt32.toInt F32.one.nat + fmt32.toInt x.neg.nat := by
    rw [hval, F32.nat_neg, F32.toInt_neg, F32.unit_toInt hx]
    omega
  rw [F32.isNeg, F32.nat_sub, Fmt.add_finite hfin hxfin]
  split
  · rw [Fmt.isNeg_pack _ fmt32.signBit_pos, hpos, Bool.false_and]
  · rw [Fmt.isNeg_pack _ (fmt32.roundMag_lt_signBit _ _)]
    exact decide_eq_false (Int.not_lt.mpr hsum)

theorem EXP_neg_unit {m : Nat} {q : F32} (hq : F32.UpTo m q) (hm : m < fmt32.infMag) : F32.unit (EXP q.neg) = true := by
  have hpos : q.isNeg = false := hq.pos
  obtain ⟨hlo, hhi⟩ := EXP_unit q.neg ((F32.isFinite_neg q).trans (hq.isFinite hm))
    (by rw [F32.isNeg_neg, hpos, Bool.not_false])
  exact F32.within_iff.mpr ⟨F32.le_of_lt hlo, hhi⟩

/-- The magnitude bits of 16.0. -/
def sixteenMag : Nat := 0x41800000

/-- The magnitude bits of 20000.0, the greatest frequency of R40. -/
def topHzMag : Nat := 0x469C4000

/-- A finite sample rate of at least 16 Hz. -/
structure RateTame (sr : F32) : Prop where
  finite : sr.isFinite = true
  low : (F32.ofNat 16).le sr = true

theorem RateTame.mags {sr : F32} (h : RateTame sr) : F32.UpTo maxMag sr ∧ sixteenMag ≤ fmt32.mag sr.nat := by
  have hends : fmt32.isNeg (F32.ofNat 16).nat = false ∧ 0 < fmt32.mag (F32.ofNat 16).nat ∧
      fmt32.isNeg (F32.ofPattern maxMag).nat = false ∧ fmt32.key (F32.ofPattern maxMag).nat = maxMag ∧
      fmt32.isNaN (F32.ofPattern maxMag).nat = false ∧ fmt32.mag (F32.ofPattern maxMag).nat = maxMag ∧
      fmt32.mag (F32.ofNat 16).nat = sixteenMag := by decide +kernel
  obtain ⟨hlo, hlo0, hhi, hkey, hnan, hmax, hmin⟩ := hends
  have hfin := F32.isFinite_iff.mp h.finite
  have htop : fmt32.infMag = maxMag + 1 := by decide +kernel
  have hle : sr.le (F32.ofPattern maxMag) = true := by
    refine Fmt.le_iff.mpr ⟨(Fmt.finite_iff.mp hfin).1, hnan, ?_⟩
    rw [hkey]
    rcases fmt32.key_toInt_cases sr.nat with ⟨hk, -⟩ | ⟨hk, -⟩ <;> omega
  obtain ⟨hup, hge⟩ := F32.upTo_of_within hlo hlo0 hhi (F32.within_iff.mpr ⟨h.low, hle⟩)
  exact ⟨hmax ▸ hup, hmin ▸ hge⟩

/-- R154: at a cutoff of at most 20 kHz. -/
theorem EXP_cutoff_unit {fc sr : F32} (hfc : F32.UpTo topHzMag fc) (hsr : RateTame sr) :
    F32.unit (EXP ((Config.twoPi.mul fc).div sr).neg) = true := by
  have hturn : F32.UpTo 0x40C90FDB Config.twoPi := ⟨by decide +kernel, by decide +kernel⟩
  obtain ⟨hup, hge⟩ := hsr.mags
  have hprod : F32.UpTo 0x48000000 (Config.twoPi.mul fc) :=
    hturn.mul hfc (by decide +kernel) (by decide +kernel) (by decide +kernel)
  have hquot : F32.UpTo 0x46000000 ((Config.twoPi.mul fc).div sr) :=
    hprod.div (by decide +kernel) hsr.finite hup.pos hge (by decide +kernel) (by decide +kernel)
  exact EXP_neg_unit hquot (by decide +kernel)

theorem lpCoef_unit {fc sr : F32} (hfc : F32.UpTo topHzMag fc) (hsr : RateTame sr) : F32.unit (lpCoef fc sr) = true :=
  F32.unit_one_sub (EXP_cutoff_unit hfc hsr)

theorem lpCoef_isNeg {fc sr : F32} (hfc : F32.UpTo topHzMag fc) (hsr : RateTame sr) : (lpCoef fc sr).isNeg = false :=
  F32.isNeg_one_sub (EXP_cutoff_unit hfc hsr)

/-- R260: at a time constant of at least 4 ms and at most 1 s. -/
theorem tcCoef_unit {t sr : F32} (ht : F32.UpTo oneMag t) (hmin : 0x3B83126F ≤ fmt32.mag t.nat) (hsr : RateTame sr) :
    F32.unit (tcCoef t sr) = true := by
  obtain ⟨hup, hge⟩ := hsr.mags
  have hmax : maxMag < fmt32.infMag := by decide +kernel
  have htfin := ht.isFinite oneMag_lt_infMag
  have hprod : F32.UpTo maxMag (t.mul sr) := ht.mul hup oneMag_lt_infMag hmax (by decide +kernel)
  have hlow : 0x3D000000 ≤ fmt32.mag (t.mul sr).nat := by
    rw [F32.mag_mul htfin hsr.finite]
    refine fmt32.le_roundMag _ _ _ (Nat.two_pow_pos _) (by decide +kernel) ?_
    rw [F32.natAbs_val, F32.natAbs_val]
    calc fmt32.scaled 0x3D000000 * 2 ^ fmt32.unit
      _ ≤ fmt32.scaled 0x3B83126F * fmt32.scaled sixteenMag := by decide +kernel
      _ ≤ _ := Nat.mul_le_mul
        (Fmt.scaled_mono hmin (Nat.le_of_lt (F32.isFinite_iff.mp htfin)))
        (Fmt.scaled_mono hge (Nat.le_of_lt (F32.isFinite_iff.mp hsr.finite)))
  have hone : F32.UpTo oneMag F32.one := ⟨by decide +kernel, by decide +kernel⟩
  have hquot : F32.UpTo 0x42000000 (F32.one.div (t.mul sr)) :=
    hone.div oneMag_lt_infMag (hprod.isFinite hmax) hprod.pos hlow (by decide +kernel) (by decide +kernel)
  exact F32.unit_one_sub (EXP_neg_unit hquot (by decide +kernel))

/-! ## Parameters (R40) -/

/-- Every parameter is in its reference range (R40). -/
def ReferenceParams (p : Nat → F32) : Prop :=
  ∀ i, i < 77 → F32.within (ptMin Config.reference i) (ptMax Config.reference i) (p i) = true

theorem referenceParams_of_legal {s : State} (hcfg : s.cfg = Config.reference) (hs : ParamsLegal s) :
    ReferenceParams s.par := by
  intro i hi
  have hin := (hs i (by rw [hcfg]; exact hi)).2
  rwa [hcfg] at hin

section
variable {p : Nat → F32} (hp : ReferenceParams p)
include hp

/-- R40: every range has finite ends. -/
theorem ReferenceParams.isFinite {i : Nat} (hi : i < 77) : (p i).isFinite = true := by
  have hends : (List.range 77).all (fun i =>
      (ptMin Config.reference i).isFinite && (ptMax Config.reference i).isFinite) = true := by decide +kernel
  obtain ⟨hlo, hhi⟩ := Bool.and_eq_true_iff.mp (List.all_eq_true.mp hends i (List.mem_range.mpr hi))
  exact ((F32.within_iff_val hlo hhi).mp (hp i hi)).1

theorem ReferenceParams.unit {i : Nat} (hi : i < 77)
    (hends : ptMin Config.reference i = F32.zero ∧ ptMax Config.reference i = F32.one) : F32.unit (p i) = true := by
  obtain ⟨hlo, hhi⟩ := hends
  have hin := hp i hi
  rwa [hlo, hhi] at hin

end

end Sys2Proof.Machine
end

section
/-! SUPPORT. Silence in the FX chain (R354): each stage takes a pair of zeros and memories of zeros to a pair of zeros
and memories of zeros, with the reference constants and parameters in their ranges. -/

namespace Sys2Proof.Machine

set_option Elab.async false

/-! ## Primitives on zeros (R155, R158, R170) -/

theorem LP.step_quiet {o : OnePole} {a x : F32} (ho : o.quiet = true) (ha : F32.unit a = true) (hx : x.isZero = true) :
    (LP.step o a x).1.isZero = true ∧ (LP.step o a x).2.quiet = true := by
  have hafin := F32.isFinite_iff.mpr (F32.unit_finite ha)
  have hz : (o.z.add (a.mul (x.sub o.z))).isZero = true :=
    F32.isZero_add ho (F32.isZero_mul_right hafin (F32.isZero_sub hx ho))
  exact ⟨hz, hz⟩

theorem softClip_isZero {x : F32} (hx : x.isZero = true) : (softClip x).isZero = true := by
  rcases F32.isZero_cases hx with rfl | rfl <;> decide +kernel

theorem Delay.read_quiet {d : Delay} (hd : d.quiet = true) : d.read.isZero = true := by
  have hget (m : Store F32) (hm : m.all (fun e => e.2.isZero) = true) (i : Nat) :
      (Store.get F32.zero m i).isZero = true := by
    induction m with
    | nil => exact F32.isZero_zero
    | cons e m ih =>
      rw [List.all_cons, Bool.and_eq_true] at hm
      unfold Store.get
      split
      · exact hm.1
      · exact ih hm.2
  exact hget d.buf hd d.idx

theorem Delay.push_quiet {d : Delay} {v : F32} (n : Nat) (hd : d.quiet = true) (hv : v.isZero = true) :
    (d.push n v).quiet = true :=
  Store.all_put _ _ _ _ _ hd hv

theorem Allpass.step_quiet {a : Delay} {x g : F32} (n : Nat) (ha : a.quiet = true) (hx : x.isZero = true)
    (hg : g.isFinite = true) : (Allpass.step n a x g).1.isZero = true ∧ (Allpass.step n a x g).2.quiet = true := by
  have hread := Delay.read_quiet ha
  have hv : (x.add (g.mul a.read)).isZero = true := F32.isZero_add hx (F32.isZero_mul_right hg hread)
  exact ⟨F32.isZero_sub hread (F32.isZero_mul_right hg hv), Delay.push_quiet n ha hv⟩

/-- `F32.isFinite` of a member of [0, 1] and of 1 less one. -/
theorem F32.isFinite_of_unit {x : F32} (hx : F32.unit x = true) :
    x.isFinite = true ∧ (F32.one.sub x).isFinite = true :=
  ⟨F32.isFinite_iff.mpr (F32.unit_finite hx), F32.isFinite_iff.mpr (F32.unit_finite (F32.unit_one_sub hx))⟩

/-- A crossfade of two zeros by a member of [0, 1]. -/
theorem crossfade_isZero {x y m : F32} (hm : F32.unit m = true) (hx : x.isZero = true) (hy : y.isZero = true) :
    ((x.mul (F32.one.sub m)).add (y.mul m)).isZero = true := by
  obtain ⟨hfin, hfin'⟩ := F32.isFinite_of_unit hm
  exact F32.isZero_add (F32.isZero_mul hx hfin') (F32.isZero_mul hy hfin)

/-! ## The FX chain's memories (R53) -/

/-- `FX.quiet` by its parts. -/
structure FX.Quiet (fx : FX) : Prop where
  hil : twoAll (fourAll HilMem.quiet) fx.hil = true
  hilD : fx.hilD.isZero = true
  carrier : inTurn fx.shOsc.phase = true
  dif : lrAll (fourAll Delay.quiet) fx.dif = true
  ottLo : lrAll OnePole.quiet fx.ottLo = true
  ottHi : lrAll OnePole.quiet fx.ottHi = true
  ottEnv : lrAll bandsQuiet fx.ottEnv = true
  trEnv : F32.unit fx.trEnv.value = true
  tone : lrAll OnePole.quiet fx.tone = true

theorem FX.quiet_iff {fx : FX} : fx.quiet = true ↔ fx.Quiet := by
  simp only [FX.quiet, Bool.and_eq_true]
  constructor
  · rintro ⟨⟨⟨⟨⟨⟨⟨⟨hhil, hhilD⟩, hcarrier⟩, hdif⟩, hlo⟩, hhi⟩, henv⟩, htr⟩, htone⟩
    exact ⟨hhil, hhilD, hcarrier, hdif, hlo, hhi, henv, htr, htone⟩
  · rintro ⟨hhil, hhilD, hcarrier, hdif, hlo, hhi, henv, htr, htone⟩
    exact ⟨⟨⟨⟨⟨⟨⟨⟨hhil, hhilD⟩, hcarrier⟩, hdif⟩, hlo⟩, hhi⟩, henv⟩, htr⟩, htone⟩

/-- Both channels give a zero and the chain's memories are quiet. -/
structure FX.Still (o : LR F32 × FX) : Prop where
  left : o.1.l.isZero = true
  right : o.1.r.isZero = true
  quiet : o.2.Quiet

theorem bypassIf_still {neutral : Bool} {stage : LR F32 → FX → LR F32 × FX} {r : LR F32 × FX} (hr : FX.Still r)
    (hstage : FX.Still (stage r.1 r.2)) : FX.Still (bypassIf neutral stage r) := by
  unfold bypassIf
  split
  · exact hr
  · exact hstage

/-! ## Stage 1 (R253, R254) -/

theorem hilSec_quiet {a x : F32} {h : HilMem} (ha : (a.mul a).isFinite = true) (hx : x.isZero = true)
    (hh : h.quiet = true) : (hilSec a x h).1.isZero = true ∧ (hilSec a x h).2.quiet = true := by
  simp only [HilMem.quiet, Bool.and_eq_true] at hh
  obtain ⟨⟨⟨hx1, hx2⟩, hy1⟩, hy2⟩ := hh
  have hy : (((a.mul a).mul (x.add h.y2)).sub h.x2).isZero = true :=
    F32.isZero_sub (F32.isZero_mul_right ha (F32.isZero_add hx hy2)) hx2
  exact ⟨hy, by simp only [hilSec, HilMem.quiet, hx, hx1, hy, hy1, Bool.and_self]⟩

theorem hilBranch_quiet {a : Four F32} {x : F32} {h : Four HilMem}
    (ha : fourAll (fun a => (a.mul a).isFinite) a = true) (hx : x.isZero = true) (hh : fourAll HilMem.quiet h = true) :
    (hilBranch a x h).1.isZero = true ∧ fourAll HilMem.quiet (hilBranch a x h).2 = true := by
  obtain ⟨ha0, ha1, ha2, ha3⟩ := fourAll_iff.mp ha
  obtain ⟨hh0, hh1, hh2, hh3⟩ := fourAll_iff.mp hh
  obtain ⟨hz0, hq0⟩ := hilSec_quiet ha0 hx hh0
  obtain ⟨hz1, hq1⟩ := hilSec_quiet ha1 hz0 hh1
  obtain ⟨hz2, hq2⟩ := hilSec_quiet ha2 hz1 hh2
  obtain ⟨hz3, hq3⟩ := hilSec_quiet ha3 hz2 hh3
  exact ⟨hz3, fourAll_iff.mpr ⟨hq0, hq1, hq2, hq3⟩⟩

theorem isFinite_of_inTurn {ph : F32} (h : inTurn ph = true) : ph.isFinite = true ∧ ph.isNaN = false := by
  simp only [inTurn, Bool.and_eq_true] at h
  obtain ⟨hlo, hhi⟩ := h
  have hfin := (F32.within_iff_val (by decide +kernel) (by decide +kernel)).mp
    (F32.within_iff.mpr ⟨hlo, F32.le_of_lt hhi⟩)
  exact ⟨hfin.1, F32.not_nan_of_le_right hlo⟩

theorem isFinite_of_abs_le_one {y : F32} (h : y.abs.le F32.one = true) : y.isFinite = true := by
  have hone : fmt32.key F32.one.nat = (oneMag : Int) := by decide +kernel
  obtain ⟨-, -, hle⟩ := Fmt.le_iff.mp h
  have hfit := fmt32.mag_lt_signBit y.nat
  have hinf := oneMag_lt_infMag
  rw [hone, F32.abs_eq_pack, F32.nat_pack _ hfit, Fmt.key_of_pos (Fmt.isNeg_pack _ hfit), Fmt.mag_pack _ hfit] at hle
  exact F32.isFinite_iff.mpr (by omega)

/-- R11: `SIN` is in [-1, 1] at a finite operand without a sign. -/
theorem SIN_unit {x : F32} (hfin : x.isFinite = true) (hnan : x.isNaN = false) : (SIN x).abs.le F32.one = true := by
  have hmag : (sinMag x.abs).abs.le F32.one = true := by
    unfold sinMag
    split
    · decide +kernel
    · rw [F32.isFinite_abs, hfin, if_pos rfl]
      exact unitAbsOr_unit _ _ (by decide +kernel)
  simp only [SIN, hnan, Bool.false_eq_true, if_false, oddOf]
  split
  · rwa [F32.abs_neg]
  · exact hmag

theorem sideband_isZero {i q : F32} (f ph : F32) (hi : i.isZero = true) (hq : q.isZero = true)
    (hph : inTurn ph = true) : (sideband f i q ph).isZero = true := by
  obtain ⟨hfin, hnan⟩ := isFinite_of_inTurn hph
  have hcos := F32.isZero_mul hi (isFinite_of_abs_le_one (COS_unit ph hfin))
  have hsin := F32.isZero_mul hq (isFinite_of_abs_le_one (SIN_unit hfin hnan))
  unfold sideband
  split
  · exact F32.isZero_sub hcos hsin
  · exact F32.isZero_add hcos hsin

theorem FX.shifter_still (p : Nat → F32) (sr : F32) {x : LR F32} {fx : FX} (h : FX.Still (x, fx)) :
    FX.Still (fx.shifter Config.reference p sr x) := by
  have hcoefs : twoAll (fourAll fun a => (a.mul a).isFinite) Config.reference.hilA = true := by decide +kernel
  obtain ⟨hcoef0, hcoef1⟩ := twoAll_iff.mp hcoefs
  obtain ⟨hhil0, hhil1⟩ := twoAll_iff.mp h.quiet.hil
  obtain ⟨hz0, hq0⟩ := hilBranch_quiet hcoef0 h.left hhil0
  obtain ⟨hz1, hq1⟩ := hilBranch_quiet hcoef1 h.left hhil1
  have hy := sideband_isZero (p Param.FX_SHIFT_HZ) fx.shOsc.phase h.quiet.hilD hz1 h.quiet.carrier
  exact ⟨hy, hy, { h.quiet with hil := twoAll_iff.mpr ⟨hq0, hq1⟩, hilD := hz0, carrier := inTurn_adv _ _ _ }⟩

/-! ## Stages 2 to 4 (R256 to R258) -/

theorem widen_still {w : F32} {x : LR F32} {fx : FX} (hw : w.isFinite = true) (h : FX.Still (x, fx)) :
    FX.Still (widen w x, fx) := by
  have hhalf : F32.half.isFinite = true := by decide +kernel
  have hmid := F32.isZero_mul_right hhalf (F32.isZero_add h.left h.right)
  have hside := F32.isZero_mul (F32.isZero_mul_right hhalf (F32.isZero_sub h.left h.right)) hw
  exact ⟨F32.isZero_add hmid hside, F32.isZero_sub hmid hside, h.quiet⟩

theorem diffuse_quiet (n : Four Nat) {g d x : F32} {ap : Four Delay} (hg : g.isFinite = true) (hd : F32.unit d = true)
    (hx : x.isZero = true) (hap : fourAll Delay.quiet ap = true) :
    (diffuse n g d x ap).1.isZero = true ∧ fourAll Delay.quiet (diffuse n g d x ap).2 = true := by
  obtain ⟨h0, h1, h2, h3⟩ := fourAll_iff.mp hap
  obtain ⟨hz0, hq0⟩ := Allpass.step_quiet n.j0 h0 hx hg
  obtain ⟨hz1, hq1⟩ := Allpass.step_quiet n.j1 h1 hx hg
  obtain ⟨hz2, hq2⟩ := Allpass.step_quiet n.j2 h2 hx hg
  obtain ⟨hz3, hq3⟩ := Allpass.step_quiet n.j3 h3 hx hg
  have hsum := F32.isZero_add (F32.isZero_add (F32.isZero_add (F32.isZero_add F32.isZero_zero hz0) hz1) hz2) hz3
  exact ⟨crossfade_isZero hd hx (F32.isZero_mul_right (by decide +kernel) hsum), fourAll_iff.mpr ⟨hq0, hq1, hq2, hq3⟩⟩

theorem FX.diffuser_still {p : Nat → F32} {x : LR F32} {fx : FX} (hd : F32.unit (p Param.FX_DIFFUSE) = true)
    (h : FX.Still (x, fx)) : FX.Still (fx.diffuser Config.reference p x) := by
  have hg : Config.reference.difG.isFinite = true := by decide +kernel
  obtain ⟨hl, hr⟩ := lrAll_iff.mp h.quiet.dif
  obtain ⟨hzl, hql⟩ := diffuse_quiet Config.reference.difLen.l hg hd h.left hl
  obtain ⟨hzr, hqr⟩ := diffuse_quiet Config.reference.difLen.r hg hd h.right hr
  exact ⟨hzl, hzr, { h.quiet with dif := lrAll_iff.mpr ⟨hql, hqr⟩ }⟩

theorem inflate_still {p : Nat → F32} {x : LR F32} {fx : FX} (hmix : F32.unit (p Param.FX_INFL_MIX) = true)
    (hdrive : (F32.one.add (p Param.FX_INFL_DRIVE)).isFinite = true) (h : FX.Still (x, fx)) :
    FX.Still (⟨inflate p x.l, inflate p x.r⟩, fx) := by
  have hch {y : F32} (hy : y.isZero = true) : (inflate p y).isZero = true :=
    crossfade_isZero hmix hy (softClip_isZero (F32.isZero_mul hy hdrive))
  exact ⟨hch h.left, hch h.right, h.quiet⟩

/-! ## Stage 5 (R259 to R261) -/

theorem follow_isZero {sr e v : F32} (hsr : RateTame sr) (he : e.isZero = true) (hv : v.isZero = true) :
    (follow Config.reference sr e v).isZero = true := by
  have hcoef : (if v.abs.gt e then tcCoef Config.reference.ottAttS sr
      else tcCoef Config.reference.ottRelS sr).isFinite = true := by
    split
    · exact (F32.isFinite_of_unit
        (tcCoef_unit ⟨by decide +kernel, by decide +kernel⟩ (by decide +kernel) hsr)).1
    · exact (F32.isFinite_of_unit
        (tcCoef_unit ⟨by decide +kernel, by decide +kernel⟩ (by decide +kernel) hsr)).1
  exact F32.isZero_add he (F32.isZero_mul_right hcoef (F32.isZero_sub (F32.isZero_abs hv) he))

/-- R261: a follower at rest is below the floor. -/
theorem ottGain_of_isZero {e : F32} (he : e.isZero = true) (amt : F32) : ottGain Config.reference e amt = F32.one := by
  have hlow : e.gt Config.reference.ottTDown = false ∧
      (e.lt Config.reference.ottTUp && e.gt Config.reference.ottFloor) = false := by
    rcases F32.isZero_cases he with rfl | rfl <;> decide +kernel
  simp [ottGain, hlow]

theorem ottChannel_quiet {sr x : F32} {m : OttMem} (amt : F32) (hsr : RateTame sr) (hx : x.isZero = true)
    (hlo : m.lo.quiet = true) (hhi : m.hi.quiet = true) (henv : bandsQuiet m.env = true) :
    (ottChannel Config.reference sr amt x m).1.isZero = true ∧
      (ottChannel Config.reference sr amt x m).2.lo.quiet = true ∧
      (ottChannel Config.reference sr amt x m).2.hi.quiet = true ∧
      bandsQuiet (ottChannel Config.reference sr amt x m).2.env = true := by
  simp only [bandsQuiet, Bool.and_eq_true] at henv
  obtain ⟨⟨helo, hemid⟩, hehi⟩ := henv
  have hcoefLo : F32.unit (lpCoef Config.reference.ottXloHz sr) = true :=
    lpCoef_unit ⟨by decide +kernel, by decide +kernel⟩ hsr
  have hcoefHi : F32.unit (lpCoef Config.reference.ottXhiHz sr) = true :=
    lpCoef_unit ⟨by decide +kernel, by decide +kernel⟩ hsr
  obtain ⟨hzlo, hqlo⟩ := LP.step_quiet hlo hcoefLo hx
  obtain ⟨hzhi, hqhi⟩ := LP.step_quiet hhi hcoefHi hx
  have hlo' := follow_isZero hsr helo hzlo
  have hmid' := follow_isZero hsr hemid (F32.isZero_sub hzhi hzlo)
  have hhi' := follow_isZero hsr hehi (F32.isZero_sub hx hzhi)
  have hone : F32.one.isFinite = true := by decide +kernel
  refine ⟨?_, hqlo, hqhi, by simp only [ottChannel, bandsQuiet, hlo', hmid', hhi', Bool.and_self]⟩
  simp only [ottChannel, ottGain_of_isZero hlo', ottGain_of_isZero hmid', ottGain_of_isZero hhi']
  exact F32.isZero_add (F32.isZero_add (F32.isZero_mul hzlo hone) (F32.isZero_mul (F32.isZero_sub hzhi hzlo) hone))
    (F32.isZero_mul (F32.isZero_sub hx hzhi) hone)

theorem FX.ott_still (p : Nat → F32) {sr : F32} {x : LR F32} {fx : FX} (hsr : RateTame sr) (h : FX.Still (x, fx)) :
    FX.Still (fx.ott Config.reference p sr x) := by
  obtain ⟨hlol, hlor⟩ := lrAll_iff.mp h.quiet.ottLo
  obtain ⟨hhil, hhir⟩ := lrAll_iff.mp h.quiet.ottHi
  obtain ⟨henvl, henvr⟩ := lrAll_iff.mp h.quiet.ottEnv
  obtain ⟨hzl, hlol', hhil', henvl'⟩ := ottChannel_quiet (m := ⟨fx.ottLo.l, fx.ottHi.l, fx.ottEnv.l⟩)
    (p Param.FX_OTT_AMOUNT) hsr h.left hlol hhil henvl
  obtain ⟨hzr, hlor', hhir', henvr'⟩ := ottChannel_quiet (m := ⟨fx.ottLo.r, fx.ottHi.r, fx.ottEnv.r⟩)
    (p Param.FX_OTT_AMOUNT) hsr h.right hlor hhir henvr
  exact ⟨hzl, hzr, { h.quiet with
    ottLo := lrAll_iff.mpr ⟨hlol', hlor'⟩
    ottHi := lrAll_iff.mpr ⟨hhil', hhir'⟩
    ottEnv := lrAll_iff.mpr ⟨henvl', henvr'⟩ }⟩


/-! ## Stages 6 to 8 and the chain (R250, R262 to R265) -/

theorem isFinite_of_mag_le {x : F32} {m : Nat} (h : fmt32.mag x.nat ≤ m) (hm : m < fmt32.infMag) : x.isFinite = true :=
  F32.isFinite_iff.mpr (Nat.lt_of_le_of_lt h hm)

/-- R263: one plus a depth of at most 4 times an envelope in [0, 1], and R258's one plus a drive of at most 10. -/
theorem isFinite_one_add {x : F32} (hfin : x.isFinite = true) (hx : fmt32.mag x.nat ≤ topHzMag) :
    (F32.one.add x).isFinite = true := by
  have hone : F32.one.isFinite = true ∧ F32.one.val.natAbs = 2 ^ fmt32.unit := by decide +kernel
  obtain ⟨hofin, hoval⟩ := hone
  have hval := F32.natAbs_val x
  have hle := Fmt.scaled_mono (f := fmt32) hx (by decide +kernel)
  have hroom : 2 ^ fmt32.unit + fmt32.scaled topHzMag ≤ fmt32.scaled maxMag := by decide +kernel
  refine isFinite_of_mag_le (m := maxMag) ?_ (by decide +kernel)
  rw [F32.mag_add hofin hfin]
  exact fmt32.roundMag_le _ _ _ Nat.one_pos (by omega)

theorem FX.transient_still {p : Nat → F32} {x : LR F32} {fx : FX} (hattack : F32.unit (p Param.FX_TRANS_ATTACK) = true)
    (hdecay : F32.unit (p Param.FX_TRANS_DECAY) = true) (hfin : (p Param.FX_TRANS_DEPTH).isFinite = true)
    (hdepth : fmt32.mag (p Param.FX_TRANS_DEPTH).nat ≤ topHzMag) (h : FX.Still (x, fx)) :
    FX.Still (fx.transient p x) := by
  have hout := ADEnv.unit_next_output h.quiet.trEnv hattack (p Param.FX_TRANS_DECAY)
  have hmag := Nat.le_trans (F32.mag_mul_le (F32.isFinite_iff.mp hfin) hout) hdepth
  have hgain := isFinite_one_add (isFinite_of_mag_le hmag (by decide +kernel)) hmag
  exact ⟨F32.isZero_mul h.left hgain, F32.isZero_mul h.right hgain,
    { h.quiet with trEnv := ADEnv.unit_next h.quiet.trEnv hattack hdecay }⟩

theorem FX.toneFilter_still {p : Nat → F32} {sr : F32} {x : LR F32} {fx : FX} (hsr : RateTame sr)
    (htone : F32.UpTo topHzMag (p Param.FX_TONE_HZ)) (h : FX.Still (x, fx)) : FX.Still (fx.toneFilter p sr x) := by
  obtain ⟨htl, htr⟩ := lrAll_iff.mp h.quiet.tone
  obtain ⟨hzl, hql⟩ := LP.step_quiet htl (lpCoef_unit htone hsr) h.left
  obtain ⟨hzr, hqr⟩ := LP.step_quiet htr (lpCoef_unit htone hsr) h.right
  exact ⟨hzl, hzr, { h.quiet with tone := lrAll_iff.mpr ⟨hql, hqr⟩ }⟩

section
variable {p : Nat → F32} {sr : F32} (hp : ReferenceParams p) (hsr : RateTame sr)
include hp

/-- R40: no parameter is past 20000 in magnitude. -/
theorem ReferenceParams.mag_le {i : Nat} (hi : i < 77) : fmt32.mag (p i).nat ≤ topHzMag := by
  have hends : (List.range 77).all (fun i => decide (-(topHzMag : Int) ≤ fmt32.key (ptMin Config.reference i).nat) &&
      decide (fmt32.key (ptMax Config.reference i).nat ≤ topHzMag)) = true := by decide +kernel
  have hi' := List.all_eq_true.mp hends i (List.mem_range.mpr hi)
  simp only [Bool.and_eq_true, decide_eq_true_eq] at hi'
  obtain ⟨hlo, hhi⟩ := F32.within_iff.mp (hp i hi)
  obtain ⟨-, -, hlo⟩ := Fmt.le_iff.mp hlo
  obtain ⟨-, -, hhi⟩ := Fmt.le_iff.mp hhi
  rw [Fmt.mag_eq_natAbs_key]
  omega

theorem ReferenceParams.unit_of_coef {i : Nat} (hi : isCoef i = true) : F32.unit (p i) = true := by
  have hends : (List.range 77).all (fun i => !isCoef i || (F32.zero.le (ptMin Config.reference i) &&
      (ptMax Config.reference i).le F32.one)) = true := by decide +kernel
  have hi' := List.all_eq_true.mp hends i (List.mem_range.mpr (isCoef_lt hi))
  simp only [hi, Bool.not_true, Bool.false_or, Bool.and_eq_true] at hi'
  obtain ⟨hlo, hhi⟩ := F32.within_iff.mp (hp i (isCoef_lt hi))
  exact F32.within_iff.mpr ⟨F32.le_trans hi'.1 hlo, F32.le_trans hhi hi'.2⟩

theorem ReferenceParams.tone : F32.UpTo topHzMag (p Param.FX_TONE_HZ) := by
  have hends : fmt32.isNeg (ptMin Config.reference Param.FX_TONE_HZ).nat = false ∧
      0 < fmt32.mag (ptMin Config.reference Param.FX_TONE_HZ).nat ∧
      fmt32.isNeg (ptMax Config.reference Param.FX_TONE_HZ).nat = false ∧
      fmt32.mag (ptMax Config.reference Param.FX_TONE_HZ).nat = topHzMag := by decide +kernel
  obtain ⟨hlo, hlo0, hhi, hmag⟩ := hends
  exact hmag ▸ (F32.upTo_of_within hlo hlo0 hhi (hp Param.FX_TONE_HZ (by decide))).1

include hsr

/-- R250: stages 1 to 7, each run or bypassed. -/
theorem FX.stages_still {k : F32} {fx : FX} (hk : k.isZero = true) (hfx : fx.Quiet) :
    FX.Still (fx.stages Config.reference p sr k) := by
  have hstill0 : FX.Still (both k, fx) := ⟨hk, hk, hfx⟩
  have hstill1 := bypassIf_still (neutral := (p Param.FX_SHIFT_HZ).feq F32.zero)
    (stage := fun x f => f.shifter Config.reference p sr x) hstill0 (FX.shifter_still p sr hstill0)
  have hstill2 := bypassIf_still (neutral := (p Param.FX_WIDTH).feq F32.one)
    (stage := fun x f => (widen (p Param.FX_WIDTH) x, f)) hstill1 (widen_still (hp.isFinite (by decide)) hstill1)
  have hstill3 := bypassIf_still (neutral := (p Param.FX_DIFFUSE).feq F32.zero)
    (stage := fun x f => f.diffuser Config.reference p x) hstill2
    (FX.diffuser_still (hp.unit (by decide) (by decide +kernel)) hstill2)
  have hstill4 := bypassIf_still (neutral := (p Param.FX_INFL_MIX).feq F32.zero)
    (stage := fun x f => (⟨inflate p x.l, inflate p x.r⟩, f)) hstill3
    (inflate_still (hp.unit (by decide) (by decide +kernel))
      (isFinite_one_add (hp.isFinite (by decide)) (hp.mag_le (by decide))) hstill3)
  have hstill5 := bypassIf_still (neutral := (p Param.FX_OTT_AMOUNT).feq F32.zero)
    (stage := fun x f => f.ott Config.reference p sr x) hstill4 (FX.ott_still p hsr hstill4)
  have hstill6 := bypassIf_still (neutral := (p Param.FX_TRANS_DEPTH).feq F32.zero)
    (stage := fun x f => f.transient p x) hstill5
    (FX.transient_still (hp.unit_of_coef (by decide)) (hp.unit_of_coef (by decide)) (hp.isFinite (by decide))
      (hp.mag_le (by decide)) hstill5)
  exact bypassIf_still hstill6 (FX.toneFilter_still hsr hp.tone hstill6)

theorem FX.process_still {k : F32} {fx : FX} (hk : k.isZero = true) (hfx : fx.Quiet) :
    FX.Still (fx.process Config.reference p sr k) := by
  unfold FX.process
  split
  · exact ⟨hk, hk, hfx⟩
  · have hstages := FX.stages_still hp hsr hk hfx
    have hmix := hp.unit (i := Param.FX_MIX) (by decide) (by decide +kernel)
    exact ⟨crossfade_isZero hmix hk hstages.left, crossfade_isZero hmix hk hstages.right, hstages.quiet⟩

end

end Sys2Proof.Machine
end

section
/-! SUPPORT. Silence in the block (R350, R354): the reverb and the master on zeros, and a tick of a silent state. -/

namespace Sys2Proof.Machine

set_option Elab.async false

/-! ## The reverb (R171, R271) -/

theorem Comb.step_quiet {cb : Comb} {x fb damp : F32} (n : Nat) (hcb : cb.quiet = true) (hx : x.isZero = true)
    (hfb : fb.isFinite = true) (hdamp : F32.unit damp = true) :
    (Comb.step n cb x fb damp).1.isZero = true ∧ (Comb.step n cb x fb damp).2.quiet = true := by
  obtain ⟨hline, hfilt⟩ := Bool.and_eq_true_iff.mp hcb
  have hread := Delay.read_quiet hline
  have hfilt' := crossfade_isZero hdamp hread hfilt
  have hpush := Delay.push_quiet n hline (F32.isZero_add hx (F32.isZero_mul hfilt' hfb))
  exact ⟨hread, Bool.and_eq_true_iff.mpr ⟨hpush, hfilt'⟩⟩

theorem reverbChannel_quiet {inp fb dp : F32} (nc : Four Nat) (na : Two Nat) {cb : Four Comb} {ap : Two Delay}
    (hinp : inp.isZero = true) (hfb : fb.isFinite = true) (hdp : F32.unit dp = true)
    (hcb : fourAll Comb.quiet cb = true) (hap : twoAll Delay.quiet ap = true) :
    (reverbChannel Config.reference inp fb dp nc na cb ap).1.isZero = true ∧
      fourAll Comb.quiet (reverbChannel Config.reference inp fb dp nc na cb ap).2.1 = true ∧
      twoAll Delay.quiet (reverbChannel Config.reference inp fb dp nc na cb ap).2.2 = true := by
  have hg : Config.reference.revApG.isFinite = true ∧ (F32.dec 25 2).isFinite = true := by decide +kernel
  obtain ⟨hg, hquarter⟩ := hg
  obtain ⟨h0, h1, h2, h3⟩ := fourAll_iff.mp hcb
  obtain ⟨ha0, ha1⟩ := twoAll_iff.mp hap
  obtain ⟨hz0, hq0⟩ := Comb.step_quiet nc.j0 h0 hinp hfb hdp
  obtain ⟨hz1, hq1⟩ := Comb.step_quiet nc.j1 h1 hinp hfb hdp
  obtain ⟨hz2, hq2⟩ := Comb.step_quiet nc.j2 h2 hinp hfb hdp
  obtain ⟨hz3, hq3⟩ := Comb.step_quiet nc.j3 h3 hinp hfb hdp
  have hsum := F32.isZero_add (F32.isZero_add (F32.isZero_add (F32.isZero_add F32.isZero_zero hz0) hz1) hz2) hz3
  obtain ⟨hw0, hp0⟩ := Allpass.step_quiet na.j0 ha0 (F32.isZero_mul_right hquarter hsum) hg
  obtain ⟨hw1, hp1⟩ := Allpass.step_quiet na.j1 ha1 hw0 hg
  exact ⟨hw1, fourAll_iff.mpr ⟨hq0, hq1, hq2, hq3⟩, twoAll_iff.mpr ⟨hp0, hp1⟩⟩

/-- R271: the feedback is at most 0.98, so it is finite, and the damping is in [0, 1]. -/
theorem Reverb.process_quiet {p : Nat → F32} {k : F32} {rv : Reverb} (hp : ReferenceParams p) (hk : k.isZero = true)
    (hrv : rv.quiet = true) : lrAll F32.isZero (rv.process Config.reference p k).1 = true ∧
      (rv.process Config.reference p k).2.quiet = true := by
  have hscale : Config.reference.revFbScale.isFinite = true ∧ F32.unit Config.reference.revDampScale = true ∧
      Config.reference.revInGain.isFinite = true ∧ Config.reference.revFbBase.isFinite = true ∧
      Config.reference.revFbBase.val.natAbs + Config.reference.revFbScale.val.natAbs ≤ fmt32.scaled maxMag := by
    decide +kernel
  obtain ⟨hscale, hdampScale, hin, hbase, hroom⟩ := hscale
  have hsize : F32.unit (p Param.REV_SIZE) = true := hp.unit (by decide) (by decide +kernel)
  have hsizeMag := F32.mag_mul_le (F32.isFinite_iff.mp hscale) hsize
  have hprod := isFinite_of_mag_le hsizeMag (F32.isFinite_iff.mp hscale)
  have hprodVal := Fmt.scaled_mono hsizeMag (Nat.le_of_lt (F32.isFinite_iff.mp hscale))
  rw [← F32.natAbs_val, ← F32.natAbs_val] at hprodVal
  have hfb : (Config.reference.revFbBase.add (Config.reference.revFbScale.mul (p Param.REV_SIZE))).isFinite = true := by
    refine isFinite_of_mag_le (m := maxMag) ?_ (by decide +kernel)
    rw [F32.mag_add hbase hprod]
    exact fmt32.roundMag_le _ _ _ Nat.one_pos (by omega)
  have hdp := F32.unit_mul (hp.unit (i := Param.REV_DAMP) (by decide) (by decide +kernel)) hdampScale
  have hinp := F32.isZero_mul hk hin
  obtain ⟨hcomb, hap⟩ := Bool.and_eq_true_iff.mp hrv
  obtain ⟨hcl, hcr⟩ := lrAll_iff.mp hcomb
  obtain ⟨hal, har⟩ := lrAll_iff.mp hap
  obtain ⟨hzl, hcl', hal'⟩ := reverbChannel_quiet Config.reference.revCombLen.l Config.reference.revApLen.l
    hinp hfb hdp hcl hal
  obtain ⟨hzr, hcr', har'⟩ := reverbChannel_quiet Config.reference.revCombLen.r Config.reference.revApLen.r
    hinp hfb hdp hcr har
  exact ⟨lrAll_iff.mpr ⟨hzl, hzr⟩,
    Bool.and_eq_true_iff.mpr ⟨lrAll_iff.mpr ⟨hcl', hcr'⟩, lrAll_iff.mpr ⟨hal', har'⟩⟩⟩

/-! ## The mixer and the master (R290, R292, R351) -/

theorem mix_isZero {p : Nat → F32} {f w : LR F32} {sn ht : F32} (hmix : (p Param.REV_MIX).isFinite = true)
    (hf : lrAll F32.isZero f = true) (hsn : sn.isZero = true) (hht : ht.isZero = true)
    (hw : lrAll F32.isZero w = true) : lrAll F32.isZero (mix p f sn ht w) = true := by
  obtain ⟨hfl, hfr⟩ := lrAll_iff.mp hf
  obtain ⟨hwl, hwr⟩ := lrAll_iff.mp hw
  have hdry := F32.isZero_add hsn hht
  exact lrAll_iff.mpr ⟨F32.isZero_add (F32.isZero_add hfl hdry) (F32.isZero_mul hwl hmix),
    F32.isZero_add (F32.isZero_add hfr hdry) (F32.isZero_mul hwr hmix)⟩

/-- The gain of a finite level in decibels has no sign. It may be infinite: R11 bounds `EXP2` below alone. -/
theorem isNeg_dbGain {d : F32} (hfin : (d.mul Config.dbToLog2).isFinite = true) : (dbGain d).isNeg = false :=
  F32.isNeg_of_zero_lt (EXP2_pos _ hfin)

/-- R40, R174: the three band levels are at most 24 dB, so they stay finite times `DB_TO_LOG2`. -/
theorem ReferenceParams.dbGain_isNeg {p : Nat → F32} (hp : ReferenceParams p) {i : Nat} (hi : i < 77) :
    (dbGain (p i)).isNeg = false := by
  have hunit : F32.unit Config.dbToLog2 = true := by decide +kernel
  have hmag := F32.mag_mul_le (F32.isFinite_iff.mp (hp.isFinite hi)) hunit
  exact isNeg_dbGain (isFinite_of_mag_le hmag (F32.isFinite_iff.mp (hp.isFinite hi)))

theorem masterBands_void (p : Nat → F32) {lo mid hi : F32} (hlo : lo.isZero = true) (hmid : mid.isZero = true)
    (hhi : hi.isZero = true) : (masterBands p lo mid hi).Void :=
  F32.Void.mul ((((F32.Void.mul (.inl hlo) _).add (F32.Void.mul (.inl hmid) _)).add (F32.Void.mul (.inl hhi) _))) _

theorem masterBands_plusVoid {p : Nat → F32} {mid hi : F32} (hp : ReferenceParams p) (hmid : mid.isZero = true)
    (hhi : hi.isZero = true) (hgain : (p Param.M_GAIN).isNeg = false) : (masterBands p F32.zero mid hi).PlusVoid := by
  have hlow : (F32.zero.mul (dbGain (p Param.M_LOW_DB))).PlusVoid :=
    F32.PlusVoid.mul (.inl rfl) (hp.dbGain_isNeg (by decide))
  exact ((hlow.add (F32.Void.mul (.inl hmid) _)).add (F32.Void.mul (.inl hhi) _)).mul hgain

theorem softClip_of_isNaN {y : F32} (h : y.isNaN = true) : (softClip y).isNaN = true := by
  have hnum := F32.mul_of_isNaN (y := (F32.ofNat 27).add (y.mul y)) (.inl h)
  rw [softClip, hnum, F32.div_of_isNaN (.inl F32.isNaN_nan)]
  exact F32.isNaN_nan

theorem hardClip_of_isNaN {y : F32} (h : y.isNaN = true) : hardClip y = y := by
  have h' : fmt32.isNaN y.nat = true := h
  simp [hardClip, F32.gt, F32.lt, Fmt.lt, h']

theorem masterClip_of_isNaN (mode : MasterClip) {y : F32} (h : y.isNaN = true) : (masterClip mode y).isNaN = true := by
  cases mode with
  | off => exact h
  | soft => exact softClip_of_isNaN h
  | hard => rw [masterClip, hardClip_of_isNaN h]; exact h

/-- R292, R163: the last two stages make a zero of what is a zero or a NaN. -/
theorem clamp2_masterClip_of_void (mode : MasterClip) {y : F32} (h : y.Void) :
    (clamp2 (masterClip mode y)).isZero = true := by
  rcases h with hz | hnan
  · rcases F32.isZero_cases hz with rfl | rfl <;> cases mode <;> decide +kernel
  · rw [clamp2_of_isNaN (masterClip_of_isNaN mode hnan)]
    exact F32.isZero_zero

theorem clamp2_masterClip_of_plusVoid (mode : MasterClip) {y : F32} (h : y.PlusVoid) :
    clamp2 (masterClip mode y) = F32.zero := by
  rcases h with rfl | hnan
  · cases mode <;> decide +kernel
  · exact clamp2_of_isNaN (masterClip_of_isNaN mode hnan)

/-- A low-pass at rest on a zero outputs +0, whatever the signs of its input and its memory. -/
theorem LP.step_zero {o : OnePole} {a x : F32} (ho : o.quiet = true) (hfin : a.isFinite = true) (hpos : a.isNeg = false)
    (hx : x.isZero = true) : (LP.step o a x).1 = F32.zero := by
  change o.z.add (a.mul (x.sub o.z)) = F32.zero
  rcases F32.isZero_cases ho with hz | hz <;> rw [hz]
  · exact F32.zero_add_of_isZero (F32.isZero_mul_right hfin (F32.isZero_sub hx F32.isZero_zero))
  · have hdiff : x.sub F32.zero.neg = F32.zero := by
      rcases F32.isZero_cases hx with rfl | rfl <;> decide +kernel
    rw [hdiff, F32.mul_comm, F32.zero_mul_of_pos hfin hpos]
    decide +kernel

/-- One channel of the master on a zero (R290). -/
theorem masterChannel_quiet {p : Nat → F32} {sr x : F32} {lpLo lpHi : OnePole} (hsr : RateTame sr)
    (hx : x.isZero = true) (hlo : lpLo.quiet = true) (hhi : lpHi.quiet = true) :
    (masterChannel p sr x lpLo lpHi).1.isZero = true ∧ (masterChannel p sr x lpLo lpHi).2.1.quiet = true ∧
      (masterChannel p sr x lpLo lpHi).2.2.quiet = true := by
  have hcoefLo := lpCoef_unit (fc := Config.eqXloHz) ⟨by decide +kernel, by decide +kernel⟩ hsr
  have hcoefHi := lpCoef_unit (fc := Config.eqXhiHz) ⟨by decide +kernel, by decide +kernel⟩ hsr
  obtain ⟨hzlo, hqlo⟩ := LP.step_quiet hlo hcoefLo hx
  obtain ⟨hzhi, hqhi⟩ := LP.step_quiet hhi hcoefHi hx
  have hhigh := F32.isZero_sub hx hzhi
  exact ⟨clamp2_masterClip_of_void _
    (masterBands_void p hzlo (F32.isZero_sub (F32.isZero_sub hx hzlo) hhigh) hhigh), hqlo, hqhi⟩

/-- With a master gain that has no sign the channel gives +0: both low-passes give +0, and so does the mid band. -/
theorem masterChannel_zero {p : Nat → F32} {sr x : F32} {lpLo lpHi : OnePole} (hp : ReferenceParams p)
    (hsr : RateTame sr) (hgain : (p Param.M_GAIN).isNeg = false) (hx : x.isZero = true) (hlo : lpLo.quiet = true)
    (hhi : lpHi.quiet = true) : (masterChannel p sr x lpLo lpHi).1 = F32.zero := by
  have hlow := lpCoef_isNeg (fc := Config.eqXloHz) ⟨by decide +kernel, by decide +kernel⟩ hsr
  have hcoefLo := lpCoef_unit (fc := Config.eqXloHz) ⟨by decide +kernel, by decide +kernel⟩ hsr
  have hcoefHi := lpCoef_unit (fc := Config.eqXhiHz) ⟨by decide +kernel, by decide +kernel⟩ hsr
  have hzlo := LP.step_zero hlo (F32.isFinite_of_unit hcoefLo).1 hlow hx
  obtain ⟨hzhi, -⟩ := LP.step_quiet hhi hcoefHi hx
  have hhigh := F32.isZero_sub hx hzhi
  simp only [masterChannel, hzlo]
  exact clamp2_masterClip_of_plusVoid _
    (masterBands_plusVoid hp (F32.isZero_sub (F32.isZero_sub hx F32.isZero_zero) hhigh) hhigh hgain)

/-! ## Both channels, and the block (R290, R350) -/

theorem Master.process_quiet {p : Nat → F32} {sr : F32} {b : LR F32} {ms : Master} (hsr : RateTame sr)
    (hb : lrAll F32.isZero b = true) (hms : ms.quiet = true) :
    lrAll F32.isZero (ms.process p sr b).1 = true ∧ (ms.process p sr b).2.quiet = true := by
  obtain ⟨hl, hr⟩ := lrAll_iff.mp hb
  obtain ⟨hlo, hhi⟩ := Bool.and_eq_true_iff.mp hms
  obtain ⟨hlol, hlor⟩ := lrAll_iff.mp hlo
  obtain ⟨hhil, hhir⟩ := lrAll_iff.mp hhi
  obtain ⟨hzl, hlol', hhil'⟩ := masterChannel_quiet (p := p) hsr hl hlol hhil
  obtain ⟨hzr, hlor', hhir'⟩ := masterChannel_quiet (p := p) hsr hr hlor hhir
  exact ⟨lrAll_iff.mpr ⟨hzl, hzr⟩,
    Bool.and_eq_true_iff.mpr ⟨lrAll_iff.mpr ⟨hlol', hlor'⟩, lrAll_iff.mpr ⟨hhil', hhir'⟩⟩⟩

theorem Master.process_zero {p : Nat → F32} {sr : F32} {b : LR F32} {ms : Master} (hp : ReferenceParams p)
    (hsr : RateTame sr) (hgain : (p Param.M_GAIN).isNeg = false) (hb : lrAll F32.isZero b = true)
    (hms : ms.quiet = true) : (ms.process p sr b).1 = ⟨F32.zero, F32.zero⟩ := by
  obtain ⟨hl, hr⟩ := lrAll_iff.mp hb
  obtain ⟨hlo, hhi⟩ := Bool.and_eq_true_iff.mp hms
  obtain ⟨hlol, hlor⟩ := lrAll_iff.mp hlo
  obtain ⟨hhil, hhir⟩ := lrAll_iff.mp hhi
  simp only [Master.process, masterChannel_zero hp hsr hgain hl hlol hhil, masterChannel_zero hp hsr hgain hr hlor hhir]

theorem Snare.process_of_inactive {c : Cfg} {p : Nat → F32} {sr : F32} {sn : Snare} (h : sn.active = false) :
    sn.process c p sr = (F32.zero, sn) := by
  simp [Snare.process, h]

theorem Hat.process_of_inactive {c : Cfg} {p : Nat → F32} {sr : F32} {ht : Hat} (h : ht.active = false) :
    ht.process c p sr = (F32.zero, ht) := by
  simp [Hat.process, h]

/-- `Silent` by its parts. -/
structure SilentParts (s : State) : Prop where
  k : s.k.active = false
  sn : s.sn.active = false
  ht : s.ht.active = false
  stopped : s.t.playing = false
  fx : s.fx.Quiet
  rv : s.rv.quiet = true
  ms : s.ms.quiet = true

theorem silent_iff {s : State} : Silent s = true ↔ SilentParts s := by
  simp only [Silent, Bool.and_eq_true, Bool.not_eq_true', FX.quiet_iff]
  constructor
  · rintro ⟨⟨⟨⟨⟨⟨hk, hsn⟩, hht⟩, hplay⟩, hfx⟩, hrv⟩, hms⟩
    exact ⟨hk, hsn, hht, hplay, hfx, hrv, hms⟩
  · rintro ⟨hk, hsn, hht, hplay, hfx, hrv, hms⟩
    exact ⟨⟨⟨⟨⟨⟨hk, hsn⟩, hht⟩, hplay⟩, hfx⟩, hrv⟩, hms⟩

/-- R301, R304: a tick of a stopped block is one sample of the engine. -/
theorem tick_stopped {s : State} (h : s.t.playing = false) : tick s = soundStep s := by
  simp [tick, transportStep, h]

/-- What the mixer makes of silent voices: FX and the reverb on +0 (R350, R351). -/
def silentBus (s : State) : LR F32 :=
  mix s.par (s.fx.process s.cfg s.par s.g.sr F32.zero).1 F32.zero F32.zero (s.rv.process s.cfg s.par F32.zero).1

theorem soundStep_silent {s : State} (h : SilentParts s) : soundStep s =
    ((s.ms.process s.par s.g.sr (silentBus s)).1,
      { s with
        fx := (s.fx.process s.cfg s.par s.g.sr F32.zero).2
        rv := (s.rv.process s.cfg s.par F32.zero).2
        ms := (s.ms.process s.par s.g.sr (silentBus s)).2 }) := by
  simp only [soundStep, silentBus, Kick.process_of_inactive _ _ _ h.k, Snare.process_of_inactive h.sn,
    Hat.process_of_inactive h.ht]

/-! ## The letter of R354 -/

/-- R136: out of Attack an envelope at a zero stays at a zero. -/
theorem ADEnv.next_isZero {e : ADEnv} {ca cd : F32} (hcd : cd.isFinite = true) (hstate : e.state ≠ .attack)
    (hz : e.value.isZero = true) : (e.next ca cd).2.state ≠ .attack ∧ (e.next ca cd).2.value.isZero = true := by
  unfold ADEnv.next
  split
  · exact ⟨hstate, hz⟩
  · next h => exact absurd h hstate
  · refine ⟨?_, F32.isZero_mul hz hcd⟩
    simp only
    split <;> simp

/-- R251, R262: a bypassed transient stage, or one not in Attack, leaves an envelope at a zero at a zero. -/
theorem FX.process_trEnv_isZero {c : Cfg} {p : Nat → F32} {sr k : F32} {fx : FX}
    (hdecay : (p Param.FX_TRANS_DECAY).isFinite = true) (hz : fx.trEnv.value.isZero = true)
    (h : (p Param.FX_TRANS_DEPTH).feq ⟨0#32⟩ = true ∨ fx.trEnv.state ≠ .attack) :
    (fx.process c p sr k).2.trEnv.value.isZero = true := by
  rcases h with hbypass | hstate
  · rwa [FX.process_transient_frozen hbypass]
  · exact (FX.process_keeps (P := fun f => f.trEnv.state ≠ .attack ∧ f.trEnv.value.isZero = true) c p sr k
      (fun _ _ hf => hf) (fun _ _ hf => hf) (fun _ _ hf => hf)
      (fun _ _ hf => ADEnv.next_isZero hdecay hf.1 hf.2) (fun _ _ hf => hf) ⟨hstate, hz⟩).2

theorem silentExact_iff {s : State} : SilentExact s = true ↔
    SilentParts s ∧ s.fx.shOsc.phase.isZero = true ∧ s.fx.trEnv.value.isZero = true := by
  simp only [SilentExact, FX.zeroed, Bool.and_eq_true, silent_iff, FX.quiet_iff]
  constructor
  · rintro ⟨hs, ⟨-, hphase⟩, henv⟩
    exact ⟨hs, hphase, henv⟩
  · rintro ⟨hs, hphase, henv⟩
    exact ⟨hs, ⟨hs.fx, hphase⟩, henv⟩

/-- Settles O48: silent voices feed +0 to the FX chain and the reverb, where every stage takes zeros to zeros; the
master's bands are zeros or the NaN of an infinite gain, which the clamp makes a zero. -/
theorem silenceIsKept : Obligations.SilenceIsKept := by
  intro s hcfg hparams hfin hlow hsilent
  have hp := referenceParams_of_legal hcfg hparams
  have hsr : RateTame s.g.sr := ⟨hfin, hlow⟩
  have hs := silent_iff.mp hsilent
  have hfx := FX.process_still hp hsr F32.isZero_zero hs.fx
  have hrv := Reverb.process_quiet hp F32.isZero_zero hs.rv
  rw [← hcfg] at hfx hrv
  have hbus : lrAll F32.isZero (silentBus s) = true := mix_isZero (hp.isFinite (by decide))
    (lrAll_iff.mpr ⟨hfx.left, hfx.right⟩) F32.isZero_zero F32.isZero_zero hrv.1
  obtain ⟨hout, hms⟩ := Master.process_quiet (p := s.par) hsr hbus hs.ms
  obtain ⟨hl, hr⟩ := lrAll_iff.mp hout
  rw [tick_stopped hs.stopped, soundStep_silent hs]
  refine ⟨hl, hr, silent_iff.mpr ⟨hs.k, hs.sn, hs.ht, hs.stopped, hfx.quiet, hrv.2, hms⟩,
    fun hgain => Master.process_zero hp hsr hgain hbus hs.ms, fun hexact hcause => ?_⟩
  obtain ⟨-, hphase, henv⟩ := silentExact_iff.mp hexact
  refine silentExact_iff.mpr ⟨⟨hs.k, hs.sn, hs.ht, hs.stopped, hfx.quiet, hrv.2, hms⟩, ?_⟩
  rcases hcause with hmix | ⟨hshift, htrans⟩
  · simp only [FX.process_of_mix_zero hmix]
    exact ⟨hphase, henv⟩
  · obtain ⟨-, -, hosc⟩ := FX.process_shifter_frozen (c := s.cfg) (sr := s.g.sr) (k := F32.zero) (fx := s.fx) hshift
    exact ⟨hosc ▸ hphase, FX.process_trEnv_isZero (hp.isFinite (by decide)) henv htrans⟩

end Sys2Proof.Machine
end

section
/-! SUPPORT. What each CTRL operation and each queued command does (R331 to R343, R400, R401): the clamps by their three
cases, and the exact next state of every operation in a prepared block and before `PREPARE`. -/

namespace Sys2Proof.Machine

set_option Elab.async false

/-! ## Clamps (R331, R332, R334) -/

section
variable {lo hi v : F32}

theorem clampTo_of_lt (hends : lo.le hi = true) (hv : v.lt lo = true) : clampTo lo hi v = lo := by
  have hlo : lo.gt hi = false := F32.not_lt_of_le hends
  simp [clampTo, hv, hlo]

theorem clampTo_of_gt (hends : lo.le hi = true) (hv : v.gt hi = true) : clampTo lo hi v = hi := by
  have hlow : v.lt lo = false := F32.not_lt_of_le (F32.le_of_lt (F32.lt_of_le_of_lt hends hv))
  simp [clampTo, hv, hlow]

theorem clampTo_of_inside (hlo : v.lt lo = false) (hhi : v.gt hi = false) : clampTo lo hi v = v := by
  simp [clampTo, hlo, hhi]

end

theorem Config.bpmMin_eq : Config.bpmMin = ⟨0x42200000#32⟩ := by decide +kernel

theorem Config.bpmMax_eq : Config.bpmMax = ⟨0x43700000#32⟩ := by decide +kernel

/-- R331: the clamped tempo is 40, 240 or the operand. -/
theorem clampBpm_clauses (bpm : F32) :
    (bpm.lt ⟨0x42200000#32⟩ = true → clampBpm bpm = ⟨0x42200000#32⟩) ∧
      (bpm.gt ⟨0x43700000#32⟩ = true → clampBpm bpm = ⟨0x43700000#32⟩) ∧
      (bpm.lt ⟨0x42200000#32⟩ = false → bpm.gt ⟨0x43700000#32⟩ = false → clampBpm bpm = bpm) := by
  have hends : (⟨0x42200000#32⟩ : F32).le ⟨0x43700000#32⟩ = true := by decide +kernel
  rw [clampBpm, Config.bpmMin_eq, Config.bpmMax_eq]
  exact ⟨clampTo_of_lt hends, clampTo_of_gt hends, clampTo_of_inside⟩

/-- R332: the clamped velocity is 0, 1 or the operand. -/
theorem clampVelocity_clauses (v : F32) :
    (v.lt ⟨0#32⟩ = true → clampVelocity v = ⟨0#32⟩) ∧
      (v.gt ⟨0x3F800000#32⟩ = true → clampVelocity v = ⟨0x3F800000#32⟩) ∧
      (v.lt ⟨0#32⟩ = false → v.gt ⟨0x3F800000#32⟩ = false → clampVelocity v = v) :=
  have hends : F32.zero.le F32.one = true := by decide +kernel
  ⟨clampTo_of_lt hends, clampTo_of_gt hends, clampTo_of_inside⟩

/-! ## The gate of the CTRL port (R322) -/

theorem control_prepared {s : State} (hp : s.g.prepared = true) (f : State → State) (v : BitVec 32) :
    s.control f v = (f s).respond .ctrl v := by
  simp [State.control, hp]

/-- R322, R402: in a prepared block every CTRL operation but `PREPARE` and `RESET` does its effect and answers. -/
theorem next_control_prepared {s : State} (hp : s.g.prepared = true) (f : State → State) (v : BitVec 32) :
    Host.Outcome.next (φ := Fault) (ρ := Refusal) (s.control f v) =
      .next { f s with resps := (.ctrl, v) :: (f s).resps } := by
  rw [control_prepared hp]
  rfl

/-! ## The tempo and the run state (R331, R335, R342, R343) -/

theorem State.setBpm_of_isNaN {bpm : F32} (h : bpm.isNaN = true) (s : State) : s.setBpm bpm = s := by
  simp [State.setBpm, h]

theorem State.setBpm_of_not_isNaN {bpm : F32} (h : bpm.isNaN = false) (s : State) :
    s.setBpm bpm = { s with t := { s.t with bpm := clampBpm bpm } } := by
  simp [State.setBpm, h]

/-- Settles O15: the effect of `SETBPM` and its answer, with the clamp's three clauses. -/
theorem setBpmClampsTempo : Obligations.SetBpmClampsTempo := by
  intro bpm s hp
  have hexec : exec (.setBpm bpm) s =
      .next { s.setBpm bpm with resps := (.ctrl, 0#32) :: (s.setBpm bpm).resps } :=
    next_control_prepared hp (fun s => s.setBpm bpm) 0#32
  rw [hexec]
  refine ⟨fun hnan => ?_, fun hnan => ⟨clampBpm bpm, ?_, clampBpm_clauses bpm⟩⟩
  · rw [State.setBpm_of_isNaN hnan]
  · rw [State.setBpm_of_not_isNaN hnan]

/-- Settles O23: the queued commands do what `SETBPM` and `SETPLAYING` do, and answer nothing. -/
theorem queuedTempoAndRunState : Obligations.QueuedTempoAndRunState := by
  intro bpm on s
  refine ⟨rfl, fun hnan => ?_, fun hnan => ⟨clampBpm bpm, ?_, clampBpm_clauses bpm⟩⟩
  · exact congrArg Host.Outcome.next (State.setBpm_of_isNaN hnan s)
  · exact congrArg Host.Outcome.next (State.setBpm_of_not_isNaN hnan s)

/-- Settles O16: the two words differ in the bit of `on`, and the operation writes that bit to the run state. -/
theorem setPlayingWritesRunState : Obligations.SetPlayingWritesRunState :=
  ⟨decode_make (.setPlaying false) 0#8 0#8 1#8 0#32, decode_make (.setPlaying false) 0#8 0#8 0#8 0#32,
    fun on _ hp => next_control_prepared hp (fun s => s.setPlaying on) 0#32⟩

/-! ## The pattern (R332, R333, R341) -/

/-- What one written element leaves of the pattern: itself at its lane and step, and every other as it was. -/
theorem patAt_putPat_clauses {s : State} (hwf : Memory.wf s = true) {lane step : Nat} (hstep : step < 16)
    (e : PatStep) : (s.putPat lane step e).patAt lane step = e ∧
      ∀ l st, l < 3 → st < 16 → ¬(l = lane ∧ st = step) → (s.putPat lane step e).patAt l st = s.patAt l st := by
  obtain ⟨hspaces, -⟩ := Memory.wf_iff.mp hwf
  refine ⟨?_, fun l st _ hst hne => ?_⟩
  · rw [State.patAt_putPat s lane step lane step e hstep hstep hspaces.pat, if_pos ⟨rfl, rfl⟩]
  · rw [State.patAt_putPat s lane step l st e hstep hst hspaces.pat, if_neg hne]

theorem State.setStep_ignored {lane step : BitVec 8} {on : Bool} {v : F32}
    (h : 3 ≤ lane.toNat ∨ 16 ≤ step.toNat ∨ v.isNaN = true) (s : State) : s.setStep lane step on v = s := by
  rcases s.setStep_cases lane step on v with ⟨-, he⟩ | ⟨⟨hl, hs, hv⟩, -⟩
  · exact he
  · rw [hv] at h
    simp only [Bool.false_eq_true, or_false] at h
    omega

theorem State.setStep_written {lane step : BitVec 8} {on : Bool} {v : F32} (hl : lane.toNat < 3)
    (hs : step.toNat < 16) (hv : v.isNaN = false) (s : State) :
    s.setStep lane step on v = s.putPat lane.toNat step.toNat ⟨on, clampVelocity v⟩ := by
  simp [State.setStep, stepExists, hl, hs, hv]

/-- Settles O17: an ignored `SETSTEP` leaves the state; else one element is put, with its velocity clamped. -/
theorem setStepWritesOneElement : Obligations.SetStepWritesOneElement := by
  intro lane step on velocity s hp hwf
  have hexec : exec (.setStep lane step on velocity) s = .next { s.setStep lane step on velocity with
      resps := (.ctrl, 0#32) :: (s.setStep lane step on velocity).resps } :=
    next_control_prepared hp (fun s => s.setStep lane step on velocity) 0#32
  refine ⟨fun hbad => ?_, fun hl hs hv => ?_⟩
  · rw [hexec, State.setStep_ignored hbad]
  · rw [State.setStep_written hl hs hv] at hexec
    obtain ⟨hsame, hother⟩ :=
      patAt_putPat_clauses (lane := lane.toNat) hwf hs ⟨on, clampVelocity velocity⟩
    obtain ⟨hlow, hhigh, hin⟩ := clampVelocity_clauses velocity
    exact ⟨_, clampVelocity velocity, hexec, hsame, hlow, hhigh, hin, hother, rfl⟩

theorem State.toggleStep_ignored {lane step : BitVec 8} {on : Bool} (h : 3 ≤ lane.toNat ∨ 16 ≤ step.toNat)
    (s : State) : s.toggleStep lane step on = s := by
  rcases s.toggleStep_cases lane step on with ⟨-, he⟩ | ⟨hex, -⟩
  · exact he
  · omega

theorem State.toggleStep_written {lane step : BitVec 8} {on : Bool} (hl : lane.toNat < 3) (hs : step.toNat < 16)
    (s : State) : s.toggleStep lane step on =
      s.putPat lane.toNat step.toNat ⟨on, (s.patAt lane.toNat step.toNat).velocity⟩ := by
  simp [State.toggleStep, stepExists, hl, hs]

/-- Settles O22: an ignored toggle leaves the state; else one element is put, with the velocity that is there. -/
theorem toggleStepKeepsVelocity : Obligations.ToggleStepKeepsVelocity := by
  intro lane step on s hwf
  refine ⟨fun hbad => congrArg Host.Outcome.next (State.toggleStep_ignored hbad s), fun hl hs => ?_⟩
  obtain ⟨hsame, hother⟩ := patAt_putPat_clauses (lane := lane.toNat) hwf hs
    ⟨on, (s.patAt lane.toNat step.toNat).velocity⟩
  exact ⟨_, congrArg Host.Outcome.next (State.toggleStep_written hl hs s), hsame, hother, rfl⟩

theorem patAt_of_cleared {s : State} (h : s.pat = []) (lane step : Nat) : s.patAt lane step = PatStep.clear := by
  rw [State.patAt_eq, h, Store.get_nil]

/-- Settles O18: a pattern with no element listed reads as clear steps everywhere. -/
theorem clearPatternZeroesAllSteps : Obligations.ClearPatternZeroesAllSteps := by
  refine ⟨decode_make .clearPattern 0#8 0#8 0#8 0#32, fun s hp => ?_⟩
  exact ⟨_, next_control_prepared hp State.clearPattern 0#32, fun lane step _ _ => patAt_of_cleared rfl lane step, rfl⟩

/-! ## The parameters (R10, R40, R334) -/

theorem reference_rows : (List.range 77).map (rowPattern Config.reference) = tablePatterns := by decide +kernel

/-- R10: the feedback's range ends at `FEEDBACK_MAX` in every configuration. -/
theorem ptMax_feedback_le (c : Cfg) : (ptMax c Param.K_FEEDBACK).le Config.feedbackMax = true :=
  ptMax_le_cap (by simp [ptCap, show paramKind Param.K_FEEDBACK = some .gain from rfl]) (by decide +kernel)

/-- R40: a range that ends below its bound, or has none, keeps its own end. -/
theorem ptMax_of_below_cap {c : Cfg} {i : Nat} {r : ParamRange} (hr : c.ptRanges[i]? = some r)
    (h : ∀ m, ptCap c i = some m → r.max.lt m = true) : ptMax c i = r.max := by
  rcases ptMax_cases c i with ⟨hnone, -⟩ | ⟨r', hr', hcases⟩
  · cases hr.symm.trans hnone
  · cases hr.symm.trans hr'
    rcases hcases with ⟨he, -⟩ | ⟨m, hm, hlt, -⟩
    · exact he
    · exact absurd (hlt.symm.trans (h m hm)) Bool.false_ne_true

theorem State.setParam_ignored {index : BitVec 8} {v : F32} {s : State}
    (h : s.cfg.nparam ≤ index.toNat ∨ v.isNaN = true) : s.setParam index v = s := by
  rcases s.setParam_cases index v with ⟨-, he⟩ | ⟨⟨hi, hv⟩, -⟩
  · exact he
  · rw [hv] at h
    simp only [Bool.false_eq_true, or_false] at h
    omega

theorem State.setParam_written {index : BitVec 8} {v : F32} {s : State} (hi : index.toNat < s.cfg.nparam)
    (hv : v.isNaN = false) : s.setParam index v = { s with
      pt := Store.put (ptReset s.cfg index.toNat) s.pt index.toNat (clampParam s.cfg index.toNat v) } := by
  simp [State.setParam, hi, hv]

/-- Settles O19: the reference rows by evaluation; a range's end by the bound's cases; and one cell put, clamped. -/
theorem setParamStoresClampedValue : Obligations.SetParamStoresClampedValue := by
  refine ⟨rfl, reference_rows, ptMax_feedback_le, fun c i r hr h => ptMax_of_below_cap hr h, ?_⟩
  intro index value s hp hwf hends
  have hexec : exec (.setParam index value) s =
      .next { s.setParam index value with resps := (.ctrl, 0#32) :: (s.setParam index value).resps } :=
    next_control_prepared hp (fun s => s.setParam index value) 0#32
  refine ⟨fun hbad => ?_, fun hi hv => ?_⟩
  · rw [hexec, State.setParam_ignored hbad]
  · rw [State.setParam_written hi hv] at hexec
    obtain ⟨hspaces, -⟩ := Memory.wf_iff.mp hwf
    have hcell (j : Nat) := ptAt_put hspaces.pt index.toNat j (clampParam s.cfg index.toNat value)
    have hsame := (hcell index.toNat).trans (if_pos rfl)
    exact ⟨_, hexec, fun hlow => hsame.trans (clampTo_of_lt hends hlow),
      fun hhigh => hsame.trans (clampTo_of_gt hends hhigh),
      fun hlow hhigh => hsame.trans (clampTo_of_inside hlow hhigh),
      fun j hj => (hcell j).trans (if_neg hj), rfl⟩

/-! ## The getters (R337 to R339) -/

/-- Settles O20: each getter is the gate around no effect, with its field as the answer. -/
theorem gettersReadTheirField : Obligations.GettersReadTheirField := by
  refine ⟨decode_make .getStepIndex 0#8 0#8 0#8 0#32, decode_make .getBpm 0#8 0#8 0#8 0#32,
    decode_make .isPlaying 0#8 0#8 0#8 0#32, fun s hp => ?_⟩
  have hplaying : exec .isPlaying s =
      .next { s with resps := (.ctrl, if s.t.playing then 1#32 else 0#32) :: s.resps } :=
    next_control_prepared hp id _
  refine ⟨next_control_prepared hp id _, next_control_prepared hp id _, fun hon => ?_, fun hoff => ?_⟩
  · rw [hplaying, hon, if_pos rfl]
  · rw [hplaying, hoff, if_neg Bool.false_ne_true]

/-! ## PREPARE and RESET (R322, R400, R401, R404) -/

/-- Settles O21: before `PREPARE` the gate ignores the operation, or it is the `PREPARE` excluded. -/
theorem ignoredBeforePrepare : Obligations.IgnoredBeforePrepare := by
  intro i s hp hb hport hne
  cases i with
  | prepare sr mb => exact absurd rfl (hne sr mb)
  | reset => simp only [exec, execReset, hb, control_unprepared hp]; rfl
  | cmdToggleStep lane step on => cases hport
  | cmdSetBpm bpm => cases hport
  | cmdSetPlaying on => cases hport
  | process nf nc => cases hport
  | _ => exact congrArg Host.Outcome.next (control_unprepared hp _ _)

/-- R404: a rate that is a NaN, infinite, zero or negative is not accepted. -/
theorem rateAccepted_eq_false {sr : F32}
    (h : sr.isNaN = true ∨ sr.isInf = true ∨ sr.isZero = true ∨ sr.isNeg = true) : rateAccepted sr = false := by
  refine Bool.eq_false_iff.mpr fun hacc => ?_
  simp only [rateAccepted, Bool.and_eq_true, Bool.not_eq_true'] at hacc
  obtain ⟨⟨hnan, hinf⟩, hpos⟩ := hacc
  rcases h with h | h | h | h
  · exact Bool.false_ne_true (hnan.symm.trans h)
  · exact Bool.false_ne_true (hinf.symm.trans h)
  · have hzero : sr.gt F32.zero = false := by
      rcases F32.isZero_cases h with rfl | rfl <;> decide +kernel
    exact Bool.false_ne_true (hzero.symm.trans hpos)
  · exact Bool.false_ne_true ((F32.isNeg_of_zero_lt hpos).symm.trans h)

/-- Settles O12: an unaccepted rate is only answered; an accepted one leaves `State.prepare`, whose spaces list
nothing. -/
theorem prepareInitialisesEverything : Obligations.PrepareInitialisesEverything := by
  intro sr mb s
  refine ⟨fun hbad => ?_, fun hnan hinf hpos hb => ?_⟩
  · have hacc := rateAccepted_eq_false hbad
    simp only [exec, execPrepare, hacc]
    rfl
  · have hacc : rateAccepted sr = true := by simp [rateAccepted, F32.gt, hnan, hinf, hpos]
    have hexec : exec (.prepare sr mb) s = .next ((s.prepare sr mb).respond .ctrl 0#32) := by
      simp [exec, execPrepare, hacc, hb]
    have hbpm : F32.ofNat 120 = ⟨0x42F00000#32⟩ := by decide +kernel
    have ht : Transport.prepared = ⟨⟨0x42F00000#32⟩, false, 0#4, 0#64, ⟨0#64⟩⟩ := by
      rw [Transport.prepared, hbpm]
      rfl
    exact ⟨_, hexec, rfl, fun lane step _ _ => patAt_of_cleared rfl lane step, fun i _ => ⟨rfl, rfl⟩, rfl, ht,
      rfl, rfl, rfl, rfl, rfl, rfl, rfl, rfl, rfl, rfl⟩

/-- Settles O13: an idle prepared block takes the position and the sound to their reset columns, and nothing else. -/
theorem resetKeepsTempoPatternAndParameters : Obligations.ResetKeepsTempoPatternAndParameters := by
  intro s hp hb
  simp only [exec, execReset, hb, control_prepared hp]
  rfl

end Sys2Proof.Machine
end

section
/-! SUPPORT. Words at the ports, answered (R320 to R323, R336, R345, R348, R370, R402): every step has a next state, a
word that acts is answered once on its port, and a held word waits. -/

namespace Sys2Proof.Machine

set_option Elab.async false

/-! ## A word that acts (R322, R323, R336) -/

theorem portInstr_eq_none {x : Presented} (h : ∀ i, decode x.word = .ok i → i.port ≠ x.port) : portInstr x = none := by
  cases hi : portInstr x with
  | none => rfl
  | some i =>
    unfold portInstr at hi
    split at hi
    · next j hd => rw [if_neg (h j hd)] at hi; cases hi
    · cases hi

/-- R344: a word whose opcode is no command's decodes to no command. -/
theorem not_cmd_of_opc {w : W64} (h : Word.opc w ∉ [0x10#8, 0x11#8, 0x12#8]) {i : Instr} (hd : decode w = .ok i) :
    i.port ≠ .cmd := by
  rw [← opcode_of_decode_ok hd] at h
  intro hcmd
  cases i with
  | cmdToggleStep lane step on => simp [Instr.opcode] at h
  | cmdSetBpm bpm => simp [Instr.opcode] at h
  | cmdSetPlaying on => simp [Instr.opcode] at h
  | _ => cases hcmd

theorem drainStep_discarded {r : Render} {s : State} {w : W64} {rest : List W64} (hq : s.q = w :: rest)
    (h : ∀ i, decode w = .ok i → i.port ≠ .cmd) : drainStep r s = .next { s with q := rest } := by
  rcases drainStep_cases r s with ⟨hnil, -⟩ | ⟨w', rest', hq', hword⟩
  · cases hq.symm.trans hnil
  · cases hq.symm.trans hq'
    rcases hword with ⟨lane, step, on, hd, -⟩ | ⟨bpm, hd, -⟩ | ⟨on, hd, -⟩ | ⟨-, he⟩
    · exact absurd rfl (h _ hd)
    · exact absurd rfl (h _ hd)
    · exact absurd rfl (h _ hd)
    · exact he

/-- Settles O7: at a port the word decodes to no operation of that port; in the queue, to no command. -/
theorem reservedOrWrongPortIgnored : Obligations.ReservedOrWrongPortIgnored := by
  refine ⟨fun s x rest hin hnow hx hno => ?_, fun s r w rest hr hp hq hopc => ?_⟩
  · rw [step_of_takesNow hin hnow, present_none hx (portInstr_eq_none hno)]
    rfl
  · have hengine : engineStep s = drainStep r s := by simp [engineStep, hr, hp]
    rw [hengine, drainStep_discarded hq fun i hd => not_cmd_of_opc hopc hd]

/-- Settles O8: the step takes the word to `State.push`, which appends it or ignores it. -/
theorem pushAppendsOrDrops : Obligations.PushAppendsOrDrops := by
  intro s x rest hin hnow hx
  rw [step_of_takesNow hin hnow, present_push hx]
  refine ⟨fun hp hroom => ?_, fun hdrop => ?_⟩
  · rcases State.push_cases { s with inbox := rest } x.word with ⟨-, he⟩ | ⟨hfull, -⟩
    · rw [he]
      rfl
    · rcases hfull with hp' | hlen
      · exact absurd (hp'.symm.trans hp) Bool.false_ne_true
      · exact absurd hlen hroom
  · rcases State.push_cases { s with inbox := rest } x.word with ⟨⟨hp, hroom⟩, -⟩ | ⟨-, he⟩
    · rcases hdrop with hp' | hlen
      · exact absurd (hp'.symm.trans hp) Bool.false_ne_true
      · exact absurd hlen hroom
    · rw [he]
      rfl

/-! ## PROCESS (R103, R345, R348) -/

theorem frameCount_of_neg {nf : BitVec 32} (h : nf.toInt < 0) : frameCount nf = 0#32 := by
  rw [frameCount, if_pos]
  simpa [BitVec.msb_eq_toInt] using h

theorem frameCount_of_nonneg {nf : BitVec 32} (h : 0 ≤ nf.toInt) : frameCount nf = nf := by
  rw [frameCount, if_neg]
  simpa [BitVec.msb_eq_toInt] using h

/-- Settles O24: in a prepared idle block the operation is `State.accept`. -/
theorem processIsAccepted : Obligations.ProcessIsAccepted := by
  intro nf nc s hp hb
  have hexec : exec (.process nf nc) s = .next (s.accept nf nc) := by simp [exec, execProcess, hb, hp]
  exact ⟨frameCount nf, hexec, frameCount_of_neg, frameCount_of_nonneg⟩

/-- Settles O25: before `PREPARE` the operation is `State.writeZeros`, whose buffer lists no element. -/
theorem processBeforePrepareWritesZeros : Obligations.ProcessBeforePrepareWritesZeros := by
  intro nf nc s hp hb
  have hexec : exec (.process nf nc) s = .next ((s.writeZeros nf nc).respond .render 0#32) := by
    simp [exec, execProcess, hb, hp]
  refine ⟨_, hexec, rfl, fun hneg => ?_, fun hpos => ?_, fun i hi => OutBuf.at?_eq_some_iff.mpr ⟨hi, rfl⟩⟩
  · simp [frameCount_of_neg hneg]
  · simp [frameCount_of_nonneg hpos]

/-! ## Every step has a next state (R370) -/

theorem exec_next (i : Instr) (s : State) : ∃ t, exec i s = .next t := by
  cases i with
  | prepare sr mb =>
    simp only [exec, execPrepare]
    split
    · split <;> exact ⟨_, rfl⟩
    · exact ⟨_, rfl⟩
  | reset =>
    simp only [exec, execReset]
    split <;> exact ⟨_, rfl⟩
  | process nf nc =>
    simp only [exec, execProcess]
    split
    · exact ⟨_, rfl⟩
    · split <;> exact ⟨_, rfl⟩
  | _ => exact ⟨_, rfl⟩

theorem present_next (x : Presented) (s : State) : ∃ t, present x s = .next t := by
  rcases present_cases x s with ⟨-, he⟩ | ⟨i, -, -, -, he⟩ | ⟨-, -, he⟩ <;> rw [he]
  · exact ⟨_, rfl⟩
  · exact exec_next i s
  · exact ⟨_, rfl⟩

theorem drainStep_next (r : Render) (s : State) : ∃ t, drainStep r s = .next t := by
  rcases drainStep_cases r s with ⟨-, he⟩ | ⟨w, rest, -, ⟨_, _, _, -, he⟩ | ⟨_, -, he⟩ | ⟨_, -, he⟩ | ⟨-, he⟩⟩ <;>
    exact ⟨_, he⟩

theorem engineStep_next (s : State) : ∃ t, engineStep s = .next t := by
  rcases engineStep_cases s with ⟨-, he⟩ | ⟨r, -, -, he⟩ | ⟨r, -, -, he⟩ | ⟨r, -, -, he⟩
  · exact ⟨_, he⟩
  · rw [he]
    exact drainStep_next r s
  · exact ⟨_, he⟩
  · exact ⟨_, he⟩

theorem step_next (s : State) : ∃ t, step s = .next t := by
  rcases step_cases s with ⟨-, he⟩ | ⟨x, rest, -, -, he⟩ | ⟨x, rest, -, -, he⟩ <;> rw [he]
  · exact engineStep_next _
  · exact engineStep_next _
  · exact present_next _ _

theorem advance_cfg {s t : State} (h : Advance s t) : t.cfg = s.cfg := by
  cases h <;> simp

theorem taken_cfg {x : Presented} {s t : State} (h : Taken x s t) : t.cfg = s.cfg := by
  cases h <;> simp

/-- Settles O29: every micro-step and every word answers a next state, and none of them writes the configuration. -/
theorem everyStepHasANextState : Obligations.EveryStepHasANextState := by
  intro s
  obtain ⟨t, ht⟩ := step_next s
  exact ⟨t, ht, step_keeps (P := fun u => u.cfg = s.cfg) (fun _ _ hu => hu)
    (fun _ _ hu ha => (advance_cfg ha).trans hu) (fun _ _ _ hu ha => (taken_cfg ha).trans hu) rfl ht⟩

/-! ## Held words (R320, R402) -/

theorem takesNow_eq_false {x : Presented} {s : State} (hb : s.g.busy = true) (hw : mustWait x = true) :
    takesNow x s = false := by
  simp [takesNow, hb, hw]

/-- R320, R402: RENDER words and the two held operations of CTRL wait. -/
theorem mustWait_of_held {x : Presented} (h : x.port = .render ∨ (x.port = .ctrl ∧ (decode x.word = .ok .reset ∨
    ∃ sr mb, rateAccepted sr = true ∧ decode x.word = .ok (.prepare sr mb)))) : mustWait x = true := by
  rcases h with hx | ⟨hx, hd | ⟨sr, mb, hsr, hd⟩⟩
  · exact mustWait_of_render hx
  · exact mustWait_of_holds hx hd hx.symm rfl
  · exact mustWait_of_holds hx hd hx.symm hsr

/-- No micro-step of the engine touches the inbox. -/
theorem advance_inbox {s t : State} (h : Advance s t) : t.inbox = s.inbox := by
  cases h with
  | snapped r hr hp => obtain ⟨_, _, _, he⟩ := snapStep_frame r s; rw [he]
  | ticked r hr hp => obtain ⟨_, _, _, he⟩ := tickStep_frame r s; rw [he]; exact tick_inbox s
  | _ => simp

/-- Settles O9: a held word does not act now, so the step is the engine's, which leaves the inbox as it is. -/
theorem heldWordsWait : Obligations.HeldWordsWait := by
  intro s t x rest hin hb hheld h
  rw [step_of_not_takesNow hin (takesNow_eq_false hb (mustWait_of_held hheld))] at h
  exact ⟨advance_inbox (engineStep_advance h), h⟩

/-! ## One response for each word (R321, R353) -/

/-- R321: one response on a port, and no other. -/
def AnsweredOnce (port : Port) (s t : State) : Prop := ∃ v, t.resps = (port, v) :: s.resps

theorem answeredOnce_control {s : State} {f : State → State} (hf : (f s).resps = s.resps) (v : BitVec 32) :
    AnsweredOnce .ctrl s (s.control f v) := by
  rcases s.control_cases f v with ⟨-, he⟩ | ⟨-, he⟩ <;> rw [he]
  · exact ⟨v, by rw [State.respond_resps, hf]⟩
  · exact ⟨0#32, rfl⟩

theorem answeredOnce_push (s : State) (w : W64) : AnsweredOnce .cmd s (s.push w) := by
  rcases s.push_cases w with ⟨-, he⟩ | ⟨-, he⟩ <;> rw [he]
  · exact ⟨1#32, rfl⟩
  · exact ⟨0#32, rfl⟩

/-- R321: an operation of CTRL that acts answers once; `PREPARE` and `RESET` act in an idle block alone. -/
theorem exec_ctrl_answered {i : Instr} {s t : State} (hi : i.port = .ctrl) (hidle : holds i = true → s.g.busy = false)
    (h : exec i s = .next t) : AnsweredOnce .ctrl s t := by
  cases i with
  | prepare sr mb =>
    simp only [exec, execPrepare] at h
    split at h
    · next hsr =>
      rw [hidle hsr, if_neg Bool.false_ne_true] at h
      cases h
      exact ⟨0#32, rfl⟩
    · cases h
      exact ⟨0#32, rfl⟩
  | reset =>
    simp only [exec, execReset, hidle rfl, Bool.false_eq_true, if_false] at h
    cases h
    exact answeredOnce_control rfl _
  | setBpm bpm =>
    cases h
    exact answeredOnce_control (f := fun s => s.setBpm bpm) (State.setBpm_resps s bpm) _
  | setStep lane step on v =>
    cases h
    exact answeredOnce_control (f := fun s => s.setStep lane step on v)
      (State.setStep_resps s lane step on v) _
  | setParam index v =>
    cases h
    exact answeredOnce_control (f := fun s => s.setParam index v)
      (State.setParam_resps s index v) _
  | cmdToggleStep lane step on => cases hi
  | cmdSetBpm bpm => cases hi
  | cmdSetPlaying on => cases hi
  | process nf nc => cases hi
  | _ => cases h; exact answeredOnce_control rfl _

/-- R348, R353: a `PROCESS` in an idle block is answered at once, or leaves its render in flight. -/
theorem execProcess_answered {nf : BitVec 32} {nc : BitVec 8} {s t : State} (hb : s.g.busy = false)
    (h : execProcess nf nc s = .next t) : AnsweredOnce .render s t ∨ (t.resps = s.resps ∧ t.g.busy = true) := by
  simp only [execProcess, hb, Bool.false_eq_true, if_false] at h
  split at h <;> cases h
  · exact .inr ⟨rfl, rfl⟩
  · exact .inl ⟨0#32, rfl⟩

/-- Settles O11: a push, a CTRL operation and an ignored word answer once; the one exception is an
accepted `PROCESS`. -/
theorem oneResponsePerWord : Obligations.OneResponsePerWord := by
  intro s t x rest hin hnow h
  rw [step_of_takesNow hin hnow] at h
  rcases present_cases x { s with inbox := rest } with ⟨hx, he⟩ | ⟨i, hx, hd, hi, he⟩ | ⟨-, -, he⟩
  · cases he.symm.trans h
    rw [hx]
    exact .inl (answeredOnce_push { s with inbox := rest } x.word)
  · rw [he] at h
    cases hport : x.port with
    | cmd => exact absurd hport hx
    | ctrl =>
      exact .inl (exec_ctrl_answered (s := { s with inbox := rest }) (hi.trans hport)
        (fun hh => idle_of_mustWait (mustWait_of_holds hport hd hi hh) hnow) h)
    | render =>
      cases i with
      | process nf nc =>
        rcases execProcess_answered (s := { s with inbox := rest })
          (idle_of_mustWait (mustWait_of_render hport) hnow) h with hans | ⟨hresps, hbusy⟩
        · exact .inl hans
        · exact .inr ⟨hresps, hbusy, nf, nc, hd⟩
      | _ => cases hi.trans hport
  · cases he.symm.trans h
    exact .inl ⟨0#32, rfl⟩

end Sys2Proof.Machine
end

section
/-! SUPPORT. Rendering (R345 to R353): a drain as the fold of its words, a snapshot as the fold of its copies, a frame
in `OUT`, and the flight of an uninterrupted `PROCESS` from its acceptance to its completion. -/

namespace Sys2Proof.Machine

set_option Elab.async false

/-! ## Many steps of a render in flight -/

/-- `n` steps lead from `s` to `t`, and before each of them a render is in flight. -/
inductive Flight : Nat → State → State → Prop where
  | done (s : State) : Flight 0 s s
  | more {n : Nat} {s t u : State} (hb : s.g.busy = true) (h : step s = .next t) (rest : Flight n t u) :
      Flight (n + 1) s u

theorem Flight.single {s t : State} (hb : s.g.busy = true) (h : step s = .next t) : Flight 1 s t :=
  .more hb h (.done t)

theorem Flight.trans {m n : Nat} {s t u : State} (hst : Flight m s t) (htu : Flight n t u) : Flight (m + n) s u := by
  induction hst with
  | done s => rwa [Nat.zero_add]
  | more hb h _ ih => rw [Nat.add_right_comm]; exact .more hb h (ih htu)

theorem run_succ {s t : State} (h : step s = .next t) (n : Nat) :
    Sys2Proof.core.run (n + 1) s = Sys2Proof.core.run n t := by
  have hstep : Sys2Proof.core.step s = .next t := h
  simp only [Host.Core.run, hstep]

theorem Flight.run {n : Nat} {s t : State} (h : Flight n s t) : Sys2Proof.core.run n s = .next t := by
  induction h with
  | done s => rfl
  | more _ h _ ih => rw [run_succ h, ih]

theorem Flight.busy_before {n : Nat} {s t : State} (h : Flight n s t) {k : Nat} (hk : k < n) :
    ∃ u : State, Sys2Proof.core.run k s = .next u ∧ u.g.busy = true := by
  induction h generalizing k with
  | done s => exact absurd hk (Nat.not_lt_zero k)
  | more hb h _ ih =>
    cases k with
    | zero => exact ⟨_, rfl, hb⟩
    | succ k =>
      rw [run_succ h]
      exact ih (Nat.lt_of_succ_lt_succ hk)

theorem busy_of_render {s : State} {r : Render} (hr : s.g.render = some r) : s.g.busy = true := by
  simp [Global.busy, hr]

/-! ## The engine's step in each phase -/

section
variable {s : State} {r : Render} (hr : s.g.render = some r)
include hr

theorem engineStep_drain (hp : r.phase = .drain) : engineStep s = drainStep r s := by
  simp [engineStep, hr, hp]

theorem engineStep_snap (hp : r.phase = .snap) : engineStep s = .next (snapStep r s) := by
  simp [engineStep, hr, hp]

theorem engineStep_tick (hp : r.phase = .tick) : engineStep s = .next (tickStep r s) := by
  simp [engineStep, hr, hp]

end

/-! ## The drain (R340, R344, R346) -/

theorem applyWord_of_not_cmd {w : W64} (h : ∀ i, decode w = .ok i → i.port ≠ .cmd) (s : State) : applyWord s w = s := by
  unfold applyWord
  split
  · next hd => exact absurd rfl (h _ hd)
  · next hd => exact absurd rfl (h _ hd)
  · next hd => exact absurd rfl (h _ hd)
  · rfl

theorem drainStep_cons (r : Render) {s : State} {w : W64} {rest : List W64} (hq : s.q = w :: rest) :
    drainStep r s = .next (applyWord { s with q := rest } w) := by
  rcases drainStep_cases r s with ⟨hnil, -⟩ | ⟨w', rest', hq', hword⟩
  · cases hq.symm.trans hnil
  · cases hq.symm.trans hq'
    rcases hword with ⟨lane, step, on, hd, he⟩ | ⟨bpm, hd, he⟩ | ⟨on, hd, he⟩ | ⟨hno, he⟩
    · simpa [applyWord, hd] using he
    · simpa [applyWord, hd] using he
    · simpa [applyWord, hd] using he
    · rw [applyWord_of_not_cmd hno, he]

/-- R341 to R343: an applied word writes the pattern and the transport, from what they were, whatever is queued. -/
theorem applyWord_frame (s : State) (w : W64) :
    ∃ pat t, ∀ q, applyWord { s with q := q } w = { s with q := q, pat := pat, t := t } := by
  cases hd : decode w with
  | error e => exact ⟨s.pat, s.t, fun q => by simp [applyWord, hd]⟩
  | ok i =>
    cases i with
    | cmdToggleStep lane step on =>
      refine ⟨(s.toggleStep lane step on).pat, s.t, fun q => ?_⟩
      simp only [applyWord, hd]
      by_cases hex : stepExists lane step = true
      · simp only [State.toggleStep, hex, if_true]
        rfl
      · simp only [State.toggleStep, hex, Bool.false_eq_true, if_false]
    | cmdSetBpm bpm =>
      refine ⟨s.pat, (s.setBpm bpm).t, fun q => ?_⟩
      simp only [applyWord, hd]
      cases hnan : bpm.isNaN with
      | true => rw [State.setBpm_of_isNaN hnan, State.setBpm_of_isNaN hnan]
      | false => rw [State.setBpm_of_not_isNaN hnan, State.setBpm_of_not_isNaN hnan]
    | cmdSetPlaying on => exact ⟨s.pat, { s.t with playing := on }, fun q => by simp only [applyWord, hd]; rfl⟩
    | _ => exact ⟨s.pat, s.t, fun q => by simp [applyWord, hd]⟩

theorem foldl_applyWord_frame (ws : List W64) (s : State) :
    ∃ pat t, ∀ q, ws.foldl applyWord { s with q := q } = { s with q := q, pat := pat, t := t } := by
  induction ws generalizing s with
  | nil => exact ⟨s.pat, s.t, fun q => rfl⟩
  | cons w ws ih =>
    obtain ⟨pat, t, happly⟩ := applyWord_frame s w
    obtain ⟨pat', t', hfold⟩ := ih { s with pat := pat, t := t }
    exact ⟨pat', t', fun q => by rw [List.foldl_cons, happly q]; exact hfold q⟩

/-- R346: one step for each queued word and one for the empty queue. -/
theorem drain_flight {s : State} {r : Render} {ws : List W64} (hin : s.inbox = []) (hr : s.g.render = some r)
    (hp : r.phase = .drain) (hq : s.q = ws) : Flight (ws.length + 1) s
      ((ws.foldl applyWord { s with q := [] }).withRender (some { r with phase := .snap })) := by
  induction ws generalizing s with
  | nil =>
    have hstep := (step_of_noInbox hin).trans (engineStep_drain hr hp)
    have hsame : { s with q := [] } = s := by rw [← hq]
    rw [List.foldl_nil, hsame]
    exact .single (busy_of_render hr) (hstep.trans (by simp [drainStep, hq]))
  | cons w ws ih =>
    obtain ⟨pat, t, happly⟩ := applyWord_frame s w
    have hnext : step s = .next { s with q := ws, pat := pat, t := t } :=
      (step_of_noInbox hin).trans <| (engineStep_drain hr hp).trans <|
        (drainStep_cons r hq).trans (congrArg _ (happly ws))
    have hrest := ih (s := { s with q := ws, pat := pat, t := t }) hin hr rfl
    rw [List.foldl_cons, happly []]
    exact .more (busy_of_render hr) hnext hrest

/-- Settles O10: the run of the drain's flight. -/
theorem drainAppliesQueueInOrder : Obligations.DrainAppliesQueueInOrder := fun _ _ hin hr hp =>
  (drain_flight hin hr hp rfl).run

/-! ## The snapshot (R347, R349, R353) -/

theorem snapStep_last {r : Render} {i : Nat} (h : r.snapLeft = [i]) (s : State) :
    snapStep r s = afterSnapshot r (s.copyCell i) := by
  simp [snapStep, h]

theorem snapStep_more {r : Render} {i : Nat} {rest : List Nat} (h : r.snapLeft = i :: rest) (hne : rest ≠ [])
    (s : State) : snapStep r s = (s.copyCell i).withRender (some { r with snapLeft := rest }) := by
  cases rest with
  | nil => exact absurd rfl hne
  | cons j rest => simp [snapStep, h]

theorem par_afterSnapshot (r : Render) (s : State) : (afterSnapshot r s).par = s.par := by
  rcases afterSnapshot_cases r s with ⟨-, he⟩ | ⟨-, he⟩ <;> rw [he] <;> rfl

theorem par_snapStep {r : Render} {i : Nat} {rest : List Nat} (h : r.snapLeft = i :: rest) (s : State) :
    (snapStep r s).par = (s.copyCell i).par := by
  cases rest with
  | nil => rw [snapStep_last h, par_afterSnapshot]
  | cons j rest => rw [snapStep_more h (List.cons_ne_nil j rest)]; rfl

/-- Settles O26: the step copies the next cell, and what follows is the render's next stage alone. -/
theorem snapshotStepCopiesOneCell : Obligations.SnapshotStepCopiesOneCell := by
  intro s r i rest hr hp hleft hwf
  obtain ⟨hspaces, -⟩ := Memory.wf_iff.mp hwf
  have hcell (j : Nat) : (snapStep r s).par j = if j = i then s.ptAt i else s.par j :=
    (congrFun (par_snapStep hleft s) j).trans (par_copyCell hspaces.p i j)
  refine ⟨_, engineStep_snap hr hp, (hcell i).trans (if_pos rfl), fun j hj => (hcell j).trans (if_neg hj),
    fun hne => ?_, fun hnil hnf => ?_, fun hnil hnf => ?_⟩
  · rw [snapStep_more hleft hne]
    rfl
  · subst hnil
    rw [snapStep_last hleft, afterSnapshot, if_neg hnf]
    rfl
  · subst hnil
    rw [snapStep_last hleft, afterSnapshot, if_pos hnf]
    rfl

theorem foldl_copyCell_frame (l : List Nat) (s : State) : ∃ p, l.foldl State.copyCell s = { s with p := p } := by
  induction l generalizing s with
  | nil => exact ⟨s.p, rfl⟩
  | cons i l ih =>
    obtain ⟨p, hp⟩ := ih (s.copyCell i)
    exact ⟨p, by rw [List.foldl_cons, hp]; rfl⟩

theorem foldl_copyCell_withRender (l : List Nat) (s : State) (r : Option Render) :
    l.foldl State.copyCell (s.withRender r) = (l.foldl State.copyCell s).withRender r := by
  induction l generalizing s with
  | nil => rfl
  | cons i l ih => exact ih (s.copyCell i)

/-- R347: the cells copied are those of `PT`, however often and in whatever order. -/
theorem par_foldl_copyCell (l : List Nat) {s : State} (hwf : Store.wf (ptReset s.cfg) s.p = true) (j : Nat) :
    (l.foldl State.copyCell s).par j = if j ∈ l then s.ptAt j else s.par j := by
  induction l generalizing s with
  | nil => rfl
  | cons i l ih =>
    rw [List.foldl_cons, ih (s := s.copyCell i) (State.wf_copyCell s i hwf), par_copyCell hwf]
    by_cases hl : j ∈ l
    · simp only [hl, List.mem_cons, or_true, if_true]
      rfl
    · by_cases hi : j = i
      · subst hi
        simp [hl]
      · simp [hl, hi]

/-- R349, R353: what follows the last cell depends on neither the cells left nor the phase. -/
theorem afterSnapshot_withRender (r : Render) (l : List Nat) (s : State) (r' : Option Render) :
    afterSnapshot { r with snapLeft := l } (s.withRender r') = afterSnapshot r s := by
  by_cases h : r.numFrames = 0#32 <;> simp only [afterSnapshot, h, if_true, if_false] <;> rfl

/-- R347: one step for each cell. -/
theorem snap_flight {s : State} {r : Render} {l : List Nat} (hin : s.inbox = []) (hr : s.g.render = some r)
    (hp : r.phase = .snap) (hl : r.snapLeft = l) (hne : l ≠ []) :
    Flight l.length s (afterSnapshot r (l.foldl State.copyCell s)) := by
  induction l generalizing s r with
  | nil => exact absurd rfl hne
  | cons i rest ih =>
    have hstep : step s = .next (snapStep r s) := (step_of_noInbox hin).trans (engineStep_snap hr hp)
    cases rest with
    | nil => exact .single (busy_of_render hr) (hstep.trans (congrArg _ (snapStep_last hl s)))
    | cons j rest =>
      have hnext := hstep.trans (congrArg _ (snapStep_more hl (List.cons_ne_nil j rest) s))
      have hrest := ih (s := (s.copyCell i).withRender (some { r with snapLeft := j :: rest }))
        (r := { r with snapLeft := j :: rest }) hin rfl hp rfl (List.cons_ne_nil j rest)
      rw [foldl_copyCell_withRender, afterSnapshot_withRender] at hrest
      exact .more (busy_of_render hr) hnext hrest

/-! ## The frames (R352, R353) -/

theorem OutBuf.at?_writeAll_of_lt {o : OutBuf} {pos i : Nat} (vs : List F32) (hpos : i < pos) (hi : i < o.len) :
    (o.writeAll pos vs).at? i = o.at? i := by
  have hlen : i < (o.writeAll pos vs).len := by
    rw [OutBuf.writeAll_len]
    split <;> omega
  rw [OutBuf.at?, OutBuf.at?, if_pos hlen, if_pos hi, OutBuf.writeAll_get_lt _ _ _ _ hpos]

theorem OutBuf.at?_writeAll_add {o : OutBuf} {vs : List F32} {k : Nat} {v : F32} (pos : Nat)
    (hwf : Store.wf (fun _ => F32.zero) o.cells = true) (h : vs[k]? = some v) :
    (o.writeAll pos vs).at? (pos + k) = some v := by
  obtain ⟨hk, hv⟩ := List.getElem?_eq_some_iff.mp h
  refine OutBuf.at?_eq_some_iff.mpr ⟨?_, (OutBuf.writeAll_get o pos k vs hk hwf).trans hv⟩
  rw [OutBuf.writeAll_len, if_neg (List.ne_nil_of_length_pos (by omega))]
  omega

theorem frameElems_of_two_le {nc : Nat} (h : 2 ≤ nc) (o : LR F32) :
    frameElems nc o = o.l :: o.r :: List.replicate (nc - 2) (F32.half.mul (o.l.add o.r)) := by
  rw [frameElems, if_neg (by omega), if_neg (by omega)]

theorem frameElems_copies {nc ch : Nat} (h : 2 ≤ ch) (hch : ch < nc) (o : LR F32) :
    (frameElems nc o)[ch]? = some (F32.half.mul (o.l.add o.r)) := by
  obtain ⟨k, rfl⟩ := Nat.exists_eq_add_of_le' h
  rw [frameElems_of_two_le (by omega), List.getElem?_cons_succ, List.getElem?_cons_succ, List.getElem?_replicate,
    if_pos (by omega)]

/-- Settles O27: the frame's elements stand where the frames done end, and the render goes on or completes. -/
theorem tickStepWritesOneFrame : Obligations.TickStepWritesOneFrame := by
  rintro s r nc hr hp rfl hwf hlegal
  rw [renderLegal_some hr, legal_tick hp] at hlegal
  obtain ⟨-, -, -, hlen⟩ := hlegal
  obtain ⟨hspaces, -⟩ := Memory.wf_iff.mp hwf
  have hout : (tickStep r s).out =
      s.out.writeAll (r.n.toNat * r.numChannels.toNat) (frameElems r.numChannels.toNat (tick s).1) := by
    rw [tickStep_out, State.writeFrame_out, tick_out]
  have hnew {k : Nat} {v : F32} (h : (frameElems r.numChannels.toNat (tick s).1)[k]? = some v) :
      (tickStep r s).out.at? (r.n.toNat * r.numChannels.toNat + k) = some v := by
    rw [hout]
    exact OutBuf.at?_writeAll_add _ hspaces.out h
  refine ⟨_, engineStep_tick hr hp, ?_, fun i hi => ?_, fun hone => ?_, fun htwo => ⟨?_, ?_, fun ch hch hlt => ?_⟩,
    fun hmore => ?_, fun hlast => ?_⟩
  · rw [tickStep_out]
    exact writeFrame_len (tick s).1 ((congrArg OutBuf.len (tick_out s)).trans hlen)
  · rw [hout]
    exact OutBuf.at?_writeAll_of_lt _ hi (hlen ▸ hi)
  · have hmean := hnew (k := 0) (v := F32.half.mul ((tick s).1.l.add (tick s).1.r)) (by rw [hone]; rfl)
    rwa [hone, Nat.mul_one, Nat.add_zero] at hmean
  · exact hnew (k := 0) (by rw [frameElems_of_two_le htwo]; rfl)
  · exact hnew (k := 1) (by rw [frameElems_of_two_le htwo]; rfl)
  · exact hnew (frameElems_copies hch hlt _)
  · rcases tickStep_cases r s with ⟨-, he⟩ | ⟨hge, -⟩
    · rw [he, ← tick_g s]
      rfl
    · omega
  · rcases tickStep_cases r s with ⟨hlt, -⟩ | ⟨-, he⟩
    · omega
    · rw [he, ← tick_g s, ← tick_resps s]
      rfl

/-! ## A whole `PROCESS` (R345, R353) -/

/-- The render that was in flight in `s` is complete in `t`, with `len` elements written. -/
structure Completed (len : Nat) (s t : State) : Prop where
  idle : t.g.busy = false
  inbox : t.inbox = s.inbox
  q : t.q = s.q
  resps : t.resps = (.render, 0#32) :: s.resps
  out : t.out.len = len
  pt : t.pt = s.pt
  par : t.par = s.par

/-- A tick step after which a frame is left leaves all that a completed render leaves, and one frame more. -/
theorem tickStep_more {r : Render} {s : State} (h : r.n.toNat + 1 < r.numFrames.toNat)
    (hlen : s.out.len = r.n.toNat * r.numChannels.toNat) :
    (tickStep r s).g.render = some { r with n := r.n + 1#32 } ∧
      (tickStep r s).out.len = (r.n.toNat + 1) * r.numChannels.toNat ∧ (tickStep r s).inbox = s.inbox ∧
      (tickStep r s).resps = s.resps := by
  have hlen' := writeFrame_len (tick s).1 ((congrArg OutBuf.len (tick_out s)).trans hlen)
  rcases tickStep_cases r s with ⟨-, he⟩ | ⟨hge, -⟩
  · rw [he]
    exact ⟨rfl, hlen', tick_inbox s, tick_resps s⟩
  · omega

theorem par_tickStep (r : Render) (s : State) : (tickStep r s).par = s.par := by
  funext i
  simp [State.par_eq]

/-- R353: the last frame's tick step completes. -/
theorem tickStep_last {r : Render} {s : State} (h : r.n.toNat + 1 = r.numFrames.toNat)
    (hlen : s.out.len = r.n.toNat * r.numChannels.toNat) :
    Completed (r.numFrames.toNat * r.numChannels.toNat) s (tickStep r s) := by
  have hlen' := writeFrame_len (tick s).1 ((congrArg OutBuf.len (tick_out s)).trans hlen)
  rw [h] at hlen'
  have hpar := par_tickStep r s
  have hq := tickStep_q r s
  have hpt := tickStep_pt r s
  rcases tickStep_cases r s with ⟨hlt, -⟩ | ⟨-, he⟩
  · omega
  · rw [he] at hpar hq hpt ⊢
    exact ⟨rfl, tick_inbox s, hq, congrArg (_ :: ·) (tick_resps s), hlen', hpt, hpar⟩

/-- R352: one step for each frame left. -/
theorem tick_flight {s : State} {r : Render} {m : Nat} (hin : s.inbox = []) (hr : s.g.render = some r)
    (hp : r.phase = .tick) (hm : r.n.toNat + (m + 1) = r.numFrames.toNat)
    (hlen : s.out.len = r.n.toNat * r.numChannels.toNat) :
    ∃ t, Flight (m + 1) s t ∧ Completed (r.numFrames.toNat * r.numChannels.toNat) s t := by
  have hstep : step s = .next (tickStep r s) := (step_of_noInbox hin).trans (engineStep_tick hr hp)
  induction m generalizing s r with
  | zero => exact ⟨_, .single (busy_of_render hr) hstep, tickStep_last hm hlen⟩
  | succ m ih =>
    obtain ⟨hr', hlen', hinbox, hresps⟩ := tickStep_more (by omega) hlen
    have hin' := hinbox.trans hin
    have hn : (r.n + 1#32).toNat = r.n.toNat + 1 := by
      have := r.numFrames.isLt
      rw [BitVec.toNat_add, BitVec.toNat_ofNat]
      omega
    obtain ⟨t, hflight, hdone⟩ := ih (s := tickStep r s) (r := { r with n := r.n + 1#32 }) hin' hr' hp
      (by simp only [hn]; omega) (by simpa only [hn] using hlen')
      ((step_of_noInbox hin').trans (engineStep_tick hr' hp))
    exact ⟨t, .more (busy_of_render hr) hstep hflight, hdone.idle, hdone.inbox.trans hinbox,
      hdone.q.trans (tickStep_q r s), hresps ▸ hdone.resps, hdone.out, hdone.pt.trans (tickStep_pt r s),
      hdone.par.trans (par_tickStep r s)⟩

/-- R349, R353: what follows the last cell: a step for each frame, none if there is none to render. -/
theorem afterSnapshot_flight {s : State} {r : Render} (hin : s.inbox = []) (hn : r.n = 0#32) (hlen : s.out.len = 0) :
    ∃ t, Flight r.numFrames.toNat (afterSnapshot r s) t ∧
      Completed (r.numFrames.toNat * r.numChannels.toNat) s t := by
  rcases afterSnapshot_cases r s with ⟨hnf, he⟩ | ⟨hnf, he⟩ <;> rw [he]
  · exact ⟨s.complete, hnf ▸ .done _, rfl, rfl, rfl, rfl, by simp [hnf, hlen], rfl, rfl⟩
  · obtain ⟨m, hm⟩ : ∃ m, r.numFrames.toNat = m + 1 :=
      Nat.exists_eq_succ_of_ne_zero fun h0 => hnf (BitVec.eq_of_toNat_eq h0)
    obtain ⟨t, hflight, hdone⟩ := tick_flight (m := m)
      (s := s.withRender (some { r with phase := .tick, snapLeft := [] }))
      (r := { r with phase := .tick, snapLeft := [] }) hin rfl rfl (by simp [hn, hm]) (by simp [hn, hlen])
    exact ⟨t, hm ▸ hflight, hdone.idle, hdone.inbox, hdone.q, hdone.resps, hdone.out, hdone.pt, hdone.par⟩

/-- R345 to R353: from its acceptance, a `PROCESS` alone drains, copies every cell and renders every frame. -/
theorem accept_flight {s : State} (nf : BitVec 32) (nc : BitVec 8) (hin : s.inbox = [])
    (horder : s.cfg.snapOrder ≠ []) (hwf : Store.wf (ptReset s.cfg) s.p = true) :
    ∃ t, Flight (s.q.length + 1 + s.cfg.snapOrder.length + (frameCount nf).toNat) (s.accept nf nc) t ∧
      t.g.busy = false ∧ t.inbox = [] ∧ t.q = [] ∧ t.resps = (.render, 0#32) :: s.resps ∧
      t.out.len = (frameCount nf).toNat * nc.toNat ∧ t.pt = s.pt ∧ ∀ i, i ∈ s.cfg.snapOrder → t.par i = s.ptAt i := by
  have hdrain := drain_flight (s := s.accept nf nc) (ws := s.q) hin rfl rfl rfl
  obtain ⟨pat, t, hfold⟩ := foldl_applyWord_frame s.q (s.accept nf nc)
  rw [hfold []] at hdrain
  have hsnap := snap_flight (l := s.cfg.snapOrder)
    (s := State.withRender { s.accept nf nc with q := [], pat := pat, t := t }
      (some ⟨.snap, s.cfg.snapOrder, 0#32, frameCount nf, nc⟩)) hin rfl rfl rfl horder
  have hpar := par_foldl_copyCell s.cfg.snapOrder
    (s := State.withRender { s.accept nf nc with q := [], pat := pat, t := t }
      (some ⟨.snap, s.cfg.snapOrder, 0#32, frameCount nf, nc⟩)) hwf
  obtain ⟨p, hcopy⟩ := foldl_copyCell_frame s.cfg.snapOrder
    (State.withRender { s.accept nf nc with q := [], pat := pat, t := t }
      (some ⟨.snap, s.cfg.snapOrder, 0#32, frameCount nf, nc⟩))
  rw [hcopy] at hsnap hpar
  obtain ⟨u, hrender, hdone⟩ := afterSnapshot_flight
    (s := { State.withRender { s.accept nf nc with q := [], pat := pat, t := t }
      (some ⟨.snap, s.cfg.snapOrder, 0#32, frameCount nf, nc⟩) with p := p })
    (r := ⟨.snap, s.cfg.snapOrder, 0#32, frameCount nf, nc⟩) hin rfl rfl
  exact ⟨u, (hdrain.trans hsnap).trans hrender, hdone.idle, hdone.inbox.trans hin, hdone.q, hdone.resps, hdone.out,
    hdone.pt, fun i hi => (congrFun hdone.par i).trans ((hpar i).trans (if_pos hi))⟩

/-- Settles O28: the step that accepts the word, and then the flight from there. -/
theorem uninterruptedProcessCompletes : Obligations.UninterruptedProcessCompletes := by
  rintro s x nf nc steps hin hx hd hp hb horder hwf rfl
  obtain ⟨hspaces, -⟩ := Memory.wf_iff.mp hwf
  have haccept : step s = .next (State.accept { s with inbox := [] } nf nc) := by
    have hcmd : x.port ≠ .cmd := by rw [hx]; decide
    rw [step_takes hin hb, present_some hcmd (portInstr_eq hd hx.symm)]
    simp only [exec, execProcess]
    rw [if_neg (by simpa using hb), if_pos hp]
  obtain ⟨t, hflight, hidle, hinbox, hq, hresps, hout, hpt, hpar⟩ :=
    accept_flight (s := { s with inbox := [] }) nf nc rfl horder hspaces.p
  have hsteps : 1 + (s.q.length + 1) + s.cfg.snapOrder.length + (frameCount nf).toNat =
      s.q.length + 1 + s.cfg.snapOrder.length + (frameCount nf).toNat + 1 := by omega
  rw [hsteps]
  refine ⟨fun k hk1 hk => ?_, t, (run_succ haccept _).trans hflight.run, hidle, hinbox, hq, hresps, hout, hpt, hpar⟩
  obtain ⟨j, rfl⟩ := Nat.exists_eq_add_of_le' hk1
  rw [run_succ haccept]
  exact hflight.busy_before (Nat.lt_of_succ_lt_succ hk)

end Sys2Proof.Machine
end
